-- ==== Sys2Proof/Word.lean ====
section
/-! DEFINITION. The word types of SEG7MUX: every quantity of the spec that is held in bits, under the spec's own name. All are
unsigned (30_encoding.md R73). -/

namespace Sys2Proof

/-- One byte of a request (the model's own encoding of an operation, log 2). -/
abbrev Byte := BitVec 8

/-- A character code: `CODE_W` = 8 bits, unsigned (30_encoding.md R60, D2). -/
abbrev Code := BitVec 8

/-- A GLYPH pattern: bit 7 = DP, bit 6 = A, ..., bit 0 = G (30_encoding.md R61). -/
abbrev Pattern := BitVec 8

/-- `CURSOR`: 2 bits, every value legal, the increment wraps (10_state.md R22, 30_encoding.md R73 (c)). -/
abbrev Cursor := BitVec 2

/-- The twelve port bits as one number, port index k at bit k (30_encoding.md R63). -/
abbrev PortWord := BitVec 12

end Sys2Proof
end

