-- ==== Sys2Proof/Syntax.lean ====
section
/-! DEFINITION. The syntax of SEG7MUX: cells, frames, port lines, the operations (one constructor per row of
spec/opcode_table.json) and the reasons request bytes can fail to encode one. -/

namespace Sys2Proof

/-- A DisplayCell: a pattern and the dot flag (10_state.md R24, 30_encoding.md R62). -/
structure Cell where
  pattern : Pattern
  dot : Bool
  deriving DecidableEq, Repr, Inhabited

/-- A frame: exactly four cells, `f0` the leftmost (41_frame_formatter.md R100). -/
structure Frame where
  f0 : Cell
  f1 : Cell
  f2 : Cell
  f3 : Cell
  deriving DecidableEq, Repr, Inhabited

/-- The frame as the sequence of its cells, left to right. -/
def Frame.cells (f : Frame) : List Cell := [f.f0, f.f1, f.f2, f.f3]

/-- The twelve lines of the output port in the order of their port indices 0 to 11 (10_state.md R29). -/
inductive Line where
  | segA
  | segB
  | segC
  | segD
  | segE
  | segF
  | segG
  | segDP
  | sel0
  | sel1
  | sel2
  | sel3
  deriving DecidableEq, Repr

/-- The operations of SEG7MUX: one constructor per row of spec/opcode_table.json. -/
inductive Instr where
  -- Format CHAR (30_encoding.md R60, R71): the character code on the `code` input, one row per code class.
  | charLow (c : BitVec 5)
  | char20
  | char21
  | char22
  | char23
  | char24
  | char25
  | char26
  | char27
  | char28
  | char29
  | char2A
  | char2B
  | char2C
  | char2D
  | char2E
  | char2F
  | char30
  | char31
  | char32
  | char33
  | char34
  | char35
  | char36
  | char37
  | char38
  | char39
  | char3A
  | char3B
  | char3C
  | char3D
  | char3E
  | char3F
  | char40
  | char41
  | char42
  | char43
  | char44
  | char45
  | char46
  | char47
  | char48
  | char49
  | char4A
  | char4B
  | char4C
  | char4D
  | char4E
  | char4F
  | char50
  | char51
  | char52
  | char53
  | char54
  | char55
  | char56
  | char57
  | char58
  | char59
  | char5A
  | char5B
  | char5C
  | char5D
  | char5E
  | char5F
  | char60
  | char61
  | char62
  | char63
  | char64
  | char65
  | char66
  | char67
  | char68
  | char69
  | char6A
  | char6B
  | char6C
  | char6D
  | char6E
  | char6F
  | char70
  | char71
  | char72
  | char73
  | char74
  | char75
  | char76
  | char77
  | char78
  | char79
  | char7A
  | char7B
  | char7C
  | char7D
  | char7E
  | char7F
  | charHigh (c : BitVec 7)
  -- Format PORTIDX (10_state.md R29, 30_encoding.md R64): the port index of one SETBIT; `v` is the value set (log 13).
  | portA (v : Bool)
  | portB (v : Bool)
  | portC (v : Bool)
  | portD (v : Bool)
  | portE (v : Bool)
  | portF (v : Bool)
  | portG (v : Bool)
  | portDP (v : Bool)
  | portSel0 (v : Bool)
  | portSel1 (v : Bool)
  | portSel2 (v : Bool)
  | portSel3 (v : Bool)
  | portUnused (k : BitVec 2) (v : Bool)
  -- Format TICKSTEP (30_encoding.md R66, 42_multiplex_scheduler.md R121): one step of the tick.
  | tick1Guard
  | tick2Clear
  | tick3Frame
  | tick4Cell
  | tick5Select
  | tick6Segments
  | tick7Commit
  | tick8Advance
  -- The operations of SEG7MUX (00_scope.md section 5), with the operands their rules give them.
  | encode (c : Code)
  | fold (t : List Code)
  | pad (cs : List Cell)
  | keep4 (cs : List Cell)
  | format (t : List Code)
  | cellword (cell : Cell)
  | permute (eff : Pattern)
  | tick
  | setbit (k : BitVec 4) (v : Bool)
  | commit
  | textread
  | bindText
  | bindPort
  | reset
  deriving DecidableEq, Repr

/-- Why request bytes encode no operation; raised by `decode`. Safe: the machine stops. -/
inductive Reject where
  /-- The request is empty. -/
  | noFormat
  /-- There is a format byte and nothing after it. -/
  | noWord
  /-- The format byte names none of CHAR, PORTIDX, TICKSTEP, OPERATION. -/
  | unknownFormat (b : Byte)
  /-- A TICKSTEP word other than 1 to 8 (30_encoding.md R66). -/
  | unknownStep (b : Byte)
  /-- An OPERATION word that numbers no operation. -/
  | unknownOperation (b : Byte)
  /-- A PORTIDX word wider than 4 bits (30_encoding.md R64). -/
  | portIndexTooWide (b : Byte)
  /-- A SETBIT index outside 0 to 11 (43_port_and_text_interfaces.md R151). -/
  | setbitIndexReserved (b : Byte)
  /-- A truth value byte other than 0 or 1. -/
  | notBoolean (b : Byte)
  /-- Too few or too many operand bytes. -/
  | operandCount
  deriving DecidableEq, Repr

end Sys2Proof
end

