-- ==== Sys2Proof/WellFormed.lean ====
section
/-! DEFINITION. Which terms of `Instr` are operations of SEG7MUX. The types already bound every other operand; what is left is
the domain of SETBIT's index, "k in 0..11" (43_port_and_text_interfaces.md R151). -/

namespace Sys2Proof

/-- The domain of a SETBIT index (43_port_and_text_interfaces.md R151, 20_memory.md R42). -/
def portIndexInDomain (k : BitVec 4) : Bool := decide (k.toNat < 12)

/-- Whether the term is an operation of SEG7MUX. -/
def Instr.wellFormed : Instr → Bool
  | .charLow _ => true
  | .char20 => true
  | .char21 => true
  | .char22 => true
  | .char23 => true
  | .char24 => true
  | .char25 => true
  | .char26 => true
  | .char27 => true
  | .char28 => true
  | .char29 => true
  | .char2A => true
  | .char2B => true
  | .char2C => true
  | .char2D => true
  | .char2E => true
  | .char2F => true
  | .char30 => true
  | .char31 => true
  | .char32 => true
  | .char33 => true
  | .char34 => true
  | .char35 => true
  | .char36 => true
  | .char37 => true
  | .char38 => true
  | .char39 => true
  | .char3A => true
  | .char3B => true
  | .char3C => true
  | .char3D => true
  | .char3E => true
  | .char3F => true
  | .char40 => true
  | .char41 => true
  | .char42 => true
  | .char43 => true
  | .char44 => true
  | .char45 => true
  | .char46 => true
  | .char47 => true
  | .char48 => true
  | .char49 => true
  | .char4A => true
  | .char4B => true
  | .char4C => true
  | .char4D => true
  | .char4E => true
  | .char4F => true
  | .char50 => true
  | .char51 => true
  | .char52 => true
  | .char53 => true
  | .char54 => true
  | .char55 => true
  | .char56 => true
  | .char57 => true
  | .char58 => true
  | .char59 => true
  | .char5A => true
  | .char5B => true
  | .char5C => true
  | .char5D => true
  | .char5E => true
  | .char5F => true
  | .char60 => true
  | .char61 => true
  | .char62 => true
  | .char63 => true
  | .char64 => true
  | .char65 => true
  | .char66 => true
  | .char67 => true
  | .char68 => true
  | .char69 => true
  | .char6A => true
  | .char6B => true
  | .char6C => true
  | .char6D => true
  | .char6E => true
  | .char6F => true
  | .char70 => true
  | .char71 => true
  | .char72 => true
  | .char73 => true
  | .char74 => true
  | .char75 => true
  | .char76 => true
  | .char77 => true
  | .char78 => true
  | .char79 => true
  | .char7A => true
  | .char7B => true
  | .char7C => true
  | .char7D => true
  | .char7E => true
  | .char7F => true
  | .charHigh _ => true
  | .portA _ => true
  | .portB _ => true
  | .portC _ => true
  | .portD _ => true
  | .portE _ => true
  | .portF _ => true
  | .portG _ => true
  | .portDP _ => true
  | .portSel0 _ => true
  | .portSel1 _ => true
  | .portSel2 _ => true
  | .portSel3 _ => true
  | .portUnused _ _ => true
  | .tick1Guard => true
  | .tick2Clear => true
  | .tick3Frame => true
  | .tick4Cell => true
  | .tick5Select => true
  | .tick6Segments => true
  | .tick7Commit => true
  | .tick8Advance => true
  | .encode _ => true
  | .fold _ => true
  | .pad _ => true
  | .keep4 _ => true
  | .format _ => true
  | .cellword _ => true
  | .permute _ => true
  | .tick => true
  | .setbit k _ => portIndexInDomain k
  | .commit => true
  | .textread => true
  | .bindText => true
  | .bindPort => true
  | .reset => true

end Sys2Proof
end

