-- ==== Sys2Proof/Decode.lean ====
section
/-! DEFINITION. The decoder, total on any bytes and rejecting by name, and the encoder.

SEG7MUX has no instruction words (30_encoding.md R65, R72); it has three decode tables, of formats CHAR (8 bits), PORTIDX
(4 bits) and TICKSTEP (4 bits), whose words overlap, and operations without an encoding. DESIGN CHOICE, log 2: a request is a
byte string made of one format byte, one byte that holds the table's word (for OPERATION the operation's place in the table),
and the operand bytes; a text is one byte per code, a cell is its pattern byte and then its dot byte. -/

namespace Sys2Proof

/-- The format byte of CHAR words. -/
def fmtChar : Byte := 0#8
/-- The format byte of PORTIDX words. -/
def fmtPort : Byte := 1#8
/-- The format byte of TICKSTEP words. -/
def fmtStep : Byte := 2#8
/-- The format byte of the operations. -/
def fmtOperation : Byte := 3#8

/-- A truth value as a byte: 0 or 1, nothing else. -/
def decodeBool (b : Byte) : Except Reject Bool :=
  match b.toNat with
  | 0 => .ok false
  | 1 => .ok true
  | _ => .error (.notBoolean b)

/-- Cells, two bytes each: pattern, then dot (30_encoding.md R62 with the dot above the pattern). -/
def decodeCells : List Byte → Except Reject (List Cell)
  | [] => .ok []
  | [_] => .error .operandCount
  | p :: d :: rest =>
    match decodeBool d with
    | .error r => .error r
    | .ok dot =>
      match decodeCells rest with
      | .error r => .error r
      | .ok cs => .ok (⟨p, dot⟩ :: cs)

/-- The character decode (30_encoding.md R71, spec/opcode_table.json): total on the 256 codes (R72 (a)). -/
def decodeChar (c : Byte) : Instr :=
  match c.toNat with
  | 0x20 => .char20
  | 0x21 => .char21
  | 0x22 => .char22
  | 0x23 => .char23
  | 0x24 => .char24
  | 0x25 => .char25
  | 0x26 => .char26
  | 0x27 => .char27
  | 0x28 => .char28
  | 0x29 => .char29
  | 0x2A => .char2A
  | 0x2B => .char2B
  | 0x2C => .char2C
  | 0x2D => .char2D
  | 0x2E => .char2E
  | 0x2F => .char2F
  | 0x30 => .char30
  | 0x31 => .char31
  | 0x32 => .char32
  | 0x33 => .char33
  | 0x34 => .char34
  | 0x35 => .char35
  | 0x36 => .char36
  | 0x37 => .char37
  | 0x38 => .char38
  | 0x39 => .char39
  | 0x3A => .char3A
  | 0x3B => .char3B
  | 0x3C => .char3C
  | 0x3D => .char3D
  | 0x3E => .char3E
  | 0x3F => .char3F
  | 0x40 => .char40
  | 0x41 => .char41
  | 0x42 => .char42
  | 0x43 => .char43
  | 0x44 => .char44
  | 0x45 => .char45
  | 0x46 => .char46
  | 0x47 => .char47
  | 0x48 => .char48
  | 0x49 => .char49
  | 0x4A => .char4A
  | 0x4B => .char4B
  | 0x4C => .char4C
  | 0x4D => .char4D
  | 0x4E => .char4E
  | 0x4F => .char4F
  | 0x50 => .char50
  | 0x51 => .char51
  | 0x52 => .char52
  | 0x53 => .char53
  | 0x54 => .char54
  | 0x55 => .char55
  | 0x56 => .char56
  | 0x57 => .char57
  | 0x58 => .char58
  | 0x59 => .char59
  | 0x5A => .char5A
  | 0x5B => .char5B
  | 0x5C => .char5C
  | 0x5D => .char5D
  | 0x5E => .char5E
  | 0x5F => .char5F
  | 0x60 => .char60
  | 0x61 => .char61
  | 0x62 => .char62
  | 0x63 => .char63
  | 0x64 => .char64
  | 0x65 => .char65
  | 0x66 => .char66
  | 0x67 => .char67
  | 0x68 => .char68
  | 0x69 => .char69
  | 0x6A => .char6A
  | 0x6B => .char6B
  | 0x6C => .char6C
  | 0x6D => .char6D
  | 0x6E => .char6E
  | 0x6F => .char6F
  | 0x70 => .char70
  | 0x71 => .char71
  | 0x72 => .char72
  | 0x73 => .char73
  | 0x74 => .char74
  | 0x75 => .char75
  | 0x76 => .char76
  | 0x77 => .char77
  | 0x78 => .char78
  | 0x79 => .char79
  | 0x7A => .char7A
  | 0x7B => .char7B
  | 0x7C => .char7C
  | 0x7D => .char7D
  | 0x7E => .char7E
  | 0x7F => .char7F
  | n => if n < 0x20 then .charLow (c.setWidth 5) else .charHigh (c.setWidth 7)

/-- The port index decode (10_state.md R29, 30_encoding.md R64). -/
def decodePort (k : Byte) (v : Bool) : Except Reject Instr :=
  match k.toNat with
  | 0 => .ok (.portA v)
  | 1 => .ok (.portB v)
  | 2 => .ok (.portC v)
  | 3 => .ok (.portD v)
  | 4 => .ok (.portE v)
  | 5 => .ok (.portF v)
  | 6 => .ok (.portG v)
  | 7 => .ok (.portDP v)
  | 8 => .ok (.portSel0 v)
  | 9 => .ok (.portSel1 v)
  | 10 => .ok (.portSel2 v)
  | 11 => .ok (.portSel3 v)
  | n => if n < 16 then .ok (.portUnused (k.setWidth 2) v) else .error (.portIndexTooWide k)

/-- The tick step decode (30_encoding.md R66, 42_multiplex_scheduler.md R121). -/
def decodeStep (n : Byte) : Except Reject Instr :=
  match n.toNat with
  | 1 => .ok .tick1Guard
  | 2 => .ok .tick2Clear
  | 3 => .ok .tick3Frame
  | 4 => .ok .tick4Cell
  | 5 => .ok .tick5Select
  | 6 => .ok .tick6Segments
  | 7 => .ok .tick7Commit
  | 8 => .ok .tick8Advance
  | _ => .error (.unknownStep n)

/-- No operand bytes. -/
def noOperands (i : Instr) : List Byte → Except Reject Instr
  | [] => .ok i
  | _ => .error .operandCount

/-- Exactly one operand byte. -/
def oneOperand (f : Byte → Except Reject Instr) : List Byte → Except Reject Instr
  | [a] => f a
  | _ => .error .operandCount

/-- Exactly two operand bytes. -/
def twoOperands (f : Byte → Byte → Except Reject Instr) : List Byte → Except Reject Instr
  | [a, b] => f a b
  | _ => .error .operandCount

/-- A truth value as an operand byte. -/
def withBool (b : Byte) (f : Bool → Except Reject Instr) : Except Reject Instr :=
  match decodeBool b with
  | .error r => .error r
  | .ok v => f v

/-- A sequence of cells as the operand bytes. -/
def withCells (bs : List Byte) (f : List Cell → Instr) : Except Reject Instr :=
  match decodeCells bs with
  | .error r => .error r
  | .ok cs => .ok (f cs)

/-- SETBIT's operands, the index in 0 to 11 (43_port_and_text_interfaces.md R151). -/
def decodeSetbit (k v : Byte) : Except Reject Instr :=
  if k.toNat < 12 then withBool v fun b => .ok (.setbit (k.setWidth 4) b) else .error (.setbitIndexReserved k)

/-- The operations, numbered by their place in spec/opcode_table.json (DESIGN CHOICE, log 2). -/
def decodeOperation (op : Byte) (operands : List Byte) : Except Reject Instr :=
  match op.toNat with
  | 0 => oneOperand (fun c => .ok (.encode c)) operands
  | 1 => .ok (.fold operands)
  | 2 => withCells operands .pad
  | 3 => withCells operands .keep4
  | 4 => .ok (.format operands)
  | 5 => twoOperands (fun p d => withBool d fun dot => .ok (.cellword ⟨p, dot⟩)) operands
  | 6 => oneOperand (fun e => .ok (.permute e)) operands
  | 7 => noOperands .tick operands
  | 8 => twoOperands decodeSetbit operands
  | 9 => noOperands .commit operands
  | 10 => noOperands .textread operands
  | 11 => noOperands .bindText operands
  | 12 => noOperands .bindPort operands
  | 13 => noOperands .reset operands
  | _ => .error (.unknownOperation op)

/-- The decoder: total on any byte string, rejecting by name. -/
def decode : List Byte → Except Reject Instr
  | [] => .error .noFormat
  | [_] => .error .noWord
  | fmt :: word :: operands =>
    match fmt.toNat with
    | 0 => noOperands (decodeChar word) operands
    | 1 => oneOperand (fun v => withBool v (decodePort word)) operands
    | 2 =>
      match decodeStep word with
      | .error r => .error r
      | .ok i => noOperands i operands
    | 3 => decodeOperation word operands
    | _ => .error (.unknownFormat fmt)

/-- A truth value as a byte. -/
def boolByte (b : Bool) : Byte := if b then 1#8 else 0#8

/-- The bytes of one cell. -/
def cellBytes (c : Cell) : List Byte := [c.pattern, boolByte c.dot]

/-- The bytes of a sequence of cells. -/
def cellsBytes : List Cell → List Byte
  | [] => []
  | c :: cs => cellBytes c ++ cellsBytes cs

/-- The encoder: the request bytes of an operation, from the same tables as `decode`. -/
def encode : Instr → List Byte
  | .charLow c => [fmtChar, c.setWidth 8]
  | .char20 => [fmtChar, 0x20#8]
  | .char21 => [fmtChar, 0x21#8]
  | .char22 => [fmtChar, 0x22#8]
  | .char23 => [fmtChar, 0x23#8]
  | .char24 => [fmtChar, 0x24#8]
  | .char25 => [fmtChar, 0x25#8]
  | .char26 => [fmtChar, 0x26#8]
  | .char27 => [fmtChar, 0x27#8]
  | .char28 => [fmtChar, 0x28#8]
  | .char29 => [fmtChar, 0x29#8]
  | .char2A => [fmtChar, 0x2A#8]
  | .char2B => [fmtChar, 0x2B#8]
  | .char2C => [fmtChar, 0x2C#8]
  | .char2D => [fmtChar, 0x2D#8]
  | .char2E => [fmtChar, 0x2E#8]
  | .char2F => [fmtChar, 0x2F#8]
  | .char30 => [fmtChar, 0x30#8]
  | .char31 => [fmtChar, 0x31#8]
  | .char32 => [fmtChar, 0x32#8]
  | .char33 => [fmtChar, 0x33#8]
  | .char34 => [fmtChar, 0x34#8]
  | .char35 => [fmtChar, 0x35#8]
  | .char36 => [fmtChar, 0x36#8]
  | .char37 => [fmtChar, 0x37#8]
  | .char38 => [fmtChar, 0x38#8]
  | .char39 => [fmtChar, 0x39#8]
  | .char3A => [fmtChar, 0x3A#8]
  | .char3B => [fmtChar, 0x3B#8]
  | .char3C => [fmtChar, 0x3C#8]
  | .char3D => [fmtChar, 0x3D#8]
  | .char3E => [fmtChar, 0x3E#8]
  | .char3F => [fmtChar, 0x3F#8]
  | .char40 => [fmtChar, 0x40#8]
  | .char41 => [fmtChar, 0x41#8]
  | .char42 => [fmtChar, 0x42#8]
  | .char43 => [fmtChar, 0x43#8]
  | .char44 => [fmtChar, 0x44#8]
  | .char45 => [fmtChar, 0x45#8]
  | .char46 => [fmtChar, 0x46#8]
  | .char47 => [fmtChar, 0x47#8]
  | .char48 => [fmtChar, 0x48#8]
  | .char49 => [fmtChar, 0x49#8]
  | .char4A => [fmtChar, 0x4A#8]
  | .char4B => [fmtChar, 0x4B#8]
  | .char4C => [fmtChar, 0x4C#8]
  | .char4D => [fmtChar, 0x4D#8]
  | .char4E => [fmtChar, 0x4E#8]
  | .char4F => [fmtChar, 0x4F#8]
  | .char50 => [fmtChar, 0x50#8]
  | .char51 => [fmtChar, 0x51#8]
  | .char52 => [fmtChar, 0x52#8]
  | .char53 => [fmtChar, 0x53#8]
  | .char54 => [fmtChar, 0x54#8]
  | .char55 => [fmtChar, 0x55#8]
  | .char56 => [fmtChar, 0x56#8]
  | .char57 => [fmtChar, 0x57#8]
  | .char58 => [fmtChar, 0x58#8]
  | .char59 => [fmtChar, 0x59#8]
  | .char5A => [fmtChar, 0x5A#8]
  | .char5B => [fmtChar, 0x5B#8]
  | .char5C => [fmtChar, 0x5C#8]
  | .char5D => [fmtChar, 0x5D#8]
  | .char5E => [fmtChar, 0x5E#8]
  | .char5F => [fmtChar, 0x5F#8]
  | .char60 => [fmtChar, 0x60#8]
  | .char61 => [fmtChar, 0x61#8]
  | .char62 => [fmtChar, 0x62#8]
  | .char63 => [fmtChar, 0x63#8]
  | .char64 => [fmtChar, 0x64#8]
  | .char65 => [fmtChar, 0x65#8]
  | .char66 => [fmtChar, 0x66#8]
  | .char67 => [fmtChar, 0x67#8]
  | .char68 => [fmtChar, 0x68#8]
  | .char69 => [fmtChar, 0x69#8]
  | .char6A => [fmtChar, 0x6A#8]
  | .char6B => [fmtChar, 0x6B#8]
  | .char6C => [fmtChar, 0x6C#8]
  | .char6D => [fmtChar, 0x6D#8]
  | .char6E => [fmtChar, 0x6E#8]
  | .char6F => [fmtChar, 0x6F#8]
  | .char70 => [fmtChar, 0x70#8]
  | .char71 => [fmtChar, 0x71#8]
  | .char72 => [fmtChar, 0x72#8]
  | .char73 => [fmtChar, 0x73#8]
  | .char74 => [fmtChar, 0x74#8]
  | .char75 => [fmtChar, 0x75#8]
  | .char76 => [fmtChar, 0x76#8]
  | .char77 => [fmtChar, 0x77#8]
  | .char78 => [fmtChar, 0x78#8]
  | .char79 => [fmtChar, 0x79#8]
  | .char7A => [fmtChar, 0x7A#8]
  | .char7B => [fmtChar, 0x7B#8]
  | .char7C => [fmtChar, 0x7C#8]
  | .char7D => [fmtChar, 0x7D#8]
  | .char7E => [fmtChar, 0x7E#8]
  | .char7F => [fmtChar, 0x7F#8]
  | .charHigh c => [fmtChar, BitVec.ofNat 8 (128 + c.toNat)]
  | .portA v => [fmtPort, 0#8, boolByte v]
  | .portB v => [fmtPort, 1#8, boolByte v]
  | .portC v => [fmtPort, 2#8, boolByte v]
  | .portD v => [fmtPort, 3#8, boolByte v]
  | .portE v => [fmtPort, 4#8, boolByte v]
  | .portF v => [fmtPort, 5#8, boolByte v]
  | .portG v => [fmtPort, 6#8, boolByte v]
  | .portDP v => [fmtPort, 7#8, boolByte v]
  | .portSel0 v => [fmtPort, 8#8, boolByte v]
  | .portSel1 v => [fmtPort, 9#8, boolByte v]
  | .portSel2 v => [fmtPort, 10#8, boolByte v]
  | .portSel3 v => [fmtPort, 11#8, boolByte v]
  | .portUnused k v => [fmtPort, BitVec.ofNat 8 (12 + k.toNat), boolByte v]
  | .tick1Guard => [fmtStep, 1#8]
  | .tick2Clear => [fmtStep, 2#8]
  | .tick3Frame => [fmtStep, 3#8]
  | .tick4Cell => [fmtStep, 4#8]
  | .tick5Select => [fmtStep, 5#8]
  | .tick6Segments => [fmtStep, 6#8]
  | .tick7Commit => [fmtStep, 7#8]
  | .tick8Advance => [fmtStep, 8#8]
  | .encode c => [fmtOperation, 0#8, c]
  | .fold t => fmtOperation :: 1#8 :: t
  | .pad cs => fmtOperation :: 2#8 :: cellsBytes cs
  | .keep4 cs => fmtOperation :: 3#8 :: cellsBytes cs
  | .format t => fmtOperation :: 4#8 :: t
  | .cellword cell => fmtOperation :: 5#8 :: cellBytes cell
  | .permute eff => [fmtOperation, 6#8, eff]
  | .tick => [fmtOperation, 7#8]
  | .setbit k v => [fmtOperation, 8#8, k.setWidth 8, boolByte v]
  | .commit => [fmtOperation, 9#8]
  | .textread => [fmtOperation, 10#8]
  | .bindText => [fmtOperation, 11#8]
  | .bindPort => [fmtOperation, 12#8]
  | .reset => [fmtOperation, 13#8]

/-- The request that holds a table row's word. The table's own numbering gives a word no format, and the three tables' words
overlap; a word of one byte is laid out as a CHAR word (8 bits, 30_encoding.md R60). The rows to which the table gives more bits
are TICK.6_SEGMENTS, PORT_SEL0 to PORT_SEL3 and PORT_UNUSED, whose low four bits differ: 6 is the tick step, any other value a
PORTIDX word (R64) with the value operand 0. DESIGN CHOICE, log 3. -/
def tableBytes (nbits w : Nat) : List Byte :=
  if nbits ≤ 8 then [fmtChar, BitVec.ofNat 8 w]
  else if w % 16 = 6 then [fmtStep, 6#8]
  else [fmtPort, BitVec.ofNat 8 (w % 16), 0#8]

/-- The operation the decoder reads from a table row's word. -/
def decodeTableWord (nbits w : Nat) : Option Instr :=
  match decode (tableBytes nbits w) with
  | .ok i => some i
  | .error _ => none

end Sys2Proof
end

