-- ==== Sys2Proof/Config.lean ====
section
/-! DEFINITION. What an implementation fixes: the parameters of 00_scope.md R8, and the free values, constants without a body
of which nothing can be proved. `TEXT_MAX` is taken as unbounded (D3, log 18); `TICK_PERIOD` appears in no rule
(70_reset_and_hazards.md R203) and so in no definition. -/

namespace Sys2Proof.Config

/-- `DOT_CODE`, the character `.` (00_scope.md R8). -/
def dotCode : Code := 0x2E#8

/-- `PAD_CODE`, the space character (00_scope.md R8). -/
def padCode : Code := 0x20#8

/-- `CURSOR_RESET` (70_reset_and_hazards.md R191, D5). -/
def cursorReset : Cursor := 0#2

/-- `SYMROM`: the ROM entries at the 24 codes the source does not list, "an uninterpreted constant"
(40_segment_encoder.md R88, U1). FREE VALUE, log 4. -/
opaque symrom : Code → Pattern

/-- `PORT_BUF[k]` at reset: "unspecified, any value" (70_reset_and_hazards.md R191). FREE VALUE, log 5. -/
opaque portBufReset : Nat → Bool

/-- `PORT_OUT[k]` at reset: "unspecified, any value" (70_reset_and_hazards.md R191). FREE VALUE, log 5. -/
opaque portOutReset : Nat → Bool

/-- `TEXT` at reset: "whatever its owner holds" (70_reset_and_hazards.md R191). FREE VALUE, log 6. -/
opaque textReset : List Code

/-- What the n-th read of an unbound text source gives: TEXTREAD "is defined only when TEXT_AVAIL = 1"
(43_port_and_text_interfaces.md R155). FREE VALUE, log 7. -/
opaque unboundText : Nat → List Code

/-- What KEEP4 gives for a sequence shorter than its operands' domain (41_frame_formatter.md R103). FREE VALUE, log 8. -/
opaque keep4Short : List Cell → Frame

end Sys2Proof.Config
end

