-- ==== Sys2Proof/Machine/State.lean ====
section
/-! DEFINITION. The state of SEG7MUX as plain data, and the state after reset (10_state.md R20, 70_reset_and_hazards.md R191).
ROM is a constant (10_state.md R21) and stands in Machine/Encoder.lean as `glyphRom` (log 9). -/

namespace Sys2Proof.Machine

/-- Twelve single bits, one per port line (10_state.md R27, R28, R29); 1 means asserted. -/
structure Lines where
  segA : Bool
  segB : Bool
  segC : Bool
  segD : Bool
  segE : Bool
  segF : Bool
  segG : Bool
  segDP : Bool
  sel0 : Bool
  sel1 : Bool
  sel2 : Bool
  sel3 : Bool
  deriving DecidableEq, Repr

/-- A port transaction, an abstract record (30_encoding.md R65). -/
inductive Txn where
  | setBit (l : Line) (v : Bool)
  | commit
  deriving DecidableEq, Repr

/-- What a tick reports (42_multiplex_scheduler.md R120, D12). -/
inductive TickResult where
  | done
  | skipped
  deriving DecidableEq, Repr

/-- What an operation gives back to its caller: `result` and `pattern` of 43_port_and_text_interfaces.md R150, and the results
of the combinational operations. Log 10. -/
inductive Answer where
  | result (r : TickResult)
  | pattern (p : Pattern)
  | cells (cs : List Cell)
  | frame (f : Frame)
  | eff (e : Pattern)
  | seg (w : BitVec 8)
  | text (t : List Code)
  deriving DecidableEq, Repr

/-- The per-tick values (10_state.md R24): the text snapshot `t`, the frame `F`, the selected `cell` and `eff`. Log 11. -/
structure TickVals where
  text : List Code
  frame : Frame
  cell : Cell
  eff : Pattern
  deriving DecidableEq, Repr

/-- The per-tick values outside a tick: nothing is carried (10_state.md R24). DESIGN CHOICE, log 11. -/
def TickVals.idle : TickVals :=
  { text := [], frame := ⟨⟨0#8, false⟩, ⟨0#8, false⟩, ⟨0#8, false⟩, ⟨0#8, false⟩⟩, cell := ⟨0#8, false⟩, eff := 0#8 }

/-- A move of the outside world that is no operation of SEG7MUX (43_port_and_text_interfaces.md R160, 10_state.md R26). -/
inductive Input where
  /-- The text owner changes the text, to any sequence of codes (R156); also a newly bound source's own text (log 21). -/
  | ownerText (t : List Code)
  /-- The level input `TEXT_AVAIL` takes a value; it may fall back to 0 (R26). -/
  | textLevel (b : Bool)
  /-- The level input `PORT_AVAIL` takes a value; it may fall back to 0 (R26). -/
  | portLevel (b : Bool)
  /-- A reset of the whole system: RESET, and both availability inputs read 0 (R190, R26). -/
  | systemReset
  deriving DecidableEq, Repr

/-- An event of a scenario: a request for an operation, as bytes, or a move of the outside world (log 1). -/
inductive Event where
  | request (bytes : List Byte)
  | input (x : Input)
  deriving DecidableEq, Repr

/-- The state of the machine. -/
structure State where
  /-- `CURSOR` (10_state.md R22). -/
  cursor : Cursor
  /-- `PORT_BUF` (R27). -/
  portBuf : Lines
  /-- `PORT_OUT` (R28). -/
  portOut : Lines
  /-- `TEXT`, the text the owner holds now (R25). -/
  text : List Code
  /-- `TEXT_AVAIL` (R26). -/
  textAvail : Bool
  /-- `PORT_AVAIL` (R26). -/
  portAvail : Bool
  /-- The per-tick values (R24), idle outside a tick. -/
  perTick : TickVals
  /-- The trace `T` (00_scope.md section 6, R31). -/
  trace : List Txn
  /-- The values `PORT_OUT` took, one per COMMIT since reset (the model's own record, log 10). -/
  lineLog : List Lines
  /-- What the last operation gave back (the model's own record, log 10). -/
  answer : Option Answer
  /-- The events still to come, the next one first (the model's own, log 1). -/
  scenario : List Event
  /-- How many free texts were drawn (the model's own, log 7). -/
  draws : Nat
  deriving DecidableEq, Repr

/-- Why the machine stops with a fault. -/
inductive Fault where
  /-- A port index 12 to 15: "never produced by SEG7MUX and have no meaning" (30_encoding.md R64), "outside the capability's
  domain" (43_port_and_text_interfaces.md R151). Raised by PORT_UNUSED, and by SETBIT on an ill-formed term. Safe. -/
  | portIndexOutsideDomain
  deriving DecidableEq, Repr

/-- Why the machine refuses a step. -/
inductive Refusal where
  /-- An operation without a meaning, by its mnemonic; no arm of `exec` raises it. Safe. -/
  | notModelled (mnemonic : String)
  /-- The request's bytes encode no operation; raised by `step`. Safe. Log 20. -/
  | badRequest (r : Reject)
  deriving DecidableEq, Repr

/-- The outcome of a step of this machine. -/
abbrev Result := Host.Outcome State Fault Refusal

/-- The state right after a reset of the whole system (70_reset_and_hazards.md R190, R191). The port contents and the text
are free values (log 5, log 6). -/
def State.reset : State :=
  { cursor := Config.cursorReset
    portBuf :=
      { segA := Config.portBufReset 0, segB := Config.portBufReset 1, segC := Config.portBufReset 2, segD := Config.portBufReset 3,
        segE := Config.portBufReset 4, segF := Config.portBufReset 5, segG := Config.portBufReset 6, segDP := Config.portBufReset 7,
        sel0 := Config.portBufReset 8, sel1 := Config.portBufReset 9, sel2 := Config.portBufReset 10, sel3 := Config.portBufReset 11 }
    portOut :=
      { segA := Config.portOutReset 0, segB := Config.portOutReset 1, segC := Config.portOutReset 2, segD := Config.portOutReset 3,
        segE := Config.portOutReset 4, segF := Config.portOutReset 5, segG := Config.portOutReset 6, segDP := Config.portOutReset 7,
        sel0 := Config.portOutReset 8, sel1 := Config.portOutReset 9, sel2 := Config.portOutReset 10, sel3 := Config.portOutReset 11 }
    text := Config.textReset
    textAvail := false
    portAvail := false
    perTick := TickVals.idle
    trace := []
    lineLog := []
    answer := none
    scenario := []
    draws := 0 }

end Sys2Proof.Machine
end

