-- ==== Sys2Proof/Machine/Operands.lean ====
section
/-! DEFINITION. The operand forms: port lines by index and by name, the twelve lines as a word, the frame's cells by cursor, and
the assembly formulas of 30_encoding.md R67 to R69. -/

namespace Sys2Proof.Machine

/-- The port index of a line (10_state.md R29). -/
def lineIndex : Line → Nat
  | .segA => 0
  | .segB => 1
  | .segC => 2
  | .segD => 3
  | .segE => 4
  | .segF => 5
  | .segG => 6
  | .segDP => 7
  | .sel0 => 8
  | .sel1 => 9
  | .sel2 => 10
  | .sel3 => 11

/-- All twelve lines in ascending index. -/
def allLines : List Line :=
  [.segA, .segB, .segC, .segD, .segE, .segF, .segG, .segDP, .sel0, .sel1, .sel2, .sel3]

/-- The eight segment lines in ascending index, A to G and DP (20_memory.md R46). -/
def segmentLines : List Line :=
  [.segA, .segB, .segC, .segD, .segE, .segF, .segG, .segDP]

/-- The line of a 4-bit port index; 12 to 15 name none (30_encoding.md R64). -/
def lineOfIndex (k : BitVec 4) : Option Line := allLines[k.toNat]?

/-- The select line of a digit, index 8 + i (`SEL_BASE` = 8, 00_scope.md R8, 42_multiplex_scheduler.md R127). -/
def selectLine (i : Cursor) : Line :=
  match i.toNat with
  | 0 => .sel0
  | 1 => .sel1
  | 2 => .sel2
  | _ => .sel3

/-- `PORT_x[k]`, one bit. -/
def getLine (p : Lines) : Line → Bool
  | .segA => p.segA
  | .segB => p.segB
  | .segC => p.segC
  | .segD => p.segD
  | .segE => p.segE
  | .segF => p.segF
  | .segG => p.segG
  | .segDP => p.segDP
  | .sel0 => p.sel0
  | .sel1 => p.sel1
  | .sel2 => p.sel2
  | .sel3 => p.sel3

/-- `PORT_x[k] <- v`, one bit. -/
def setLine (p : Lines) (l : Line) (v : Bool) : Lines :=
  match l with
  | .segA => { p with segA := v }
  | .segB => { p with segB := v }
  | .segC => { p with segC := v }
  | .segD => { p with segD := v }
  | .segE => { p with segE := v }
  | .segF => { p with segF := v }
  | .segG => { p with segG := v }
  | .segDP => { p with segDP := v }
  | .sel0 => { p with sel0 := v }
  | .sel1 => { p with sel1 := v }
  | .sel2 => { p with sel2 := v }
  | .sel3 => { p with sel3 := v }

/-- The all-off value 0x000 (42_multiplex_scheduler.md R124). -/
def linesOff : Lines :=
  ⟨false, false, false, false, false, false, false, false, false, false, false, false⟩

/-- The twelve lines as a number, index k at bit k (30_encoding.md R63). -/
def linesWord (p : Lines) : PortWord :=
  allLines.foldl (fun w l => w ||| ((BitVec.ofBool (getLine p l)).setWidth 12 <<< lineIndex l)) 0#12

/-- The lines that a number says (30_encoding.md R63). -/
def wordLines (w : PortWord) : Lines :=
  allLines.foldl (fun p l => setLine p l (w.getLsbD (lineIndex l))) linesOff

/-- The frame cell of a digit: `F[CURSOR]` (42_multiplex_scheduler.md R126). -/
def frameCell (f : Frame) (i : Cursor) : Cell :=
  match i.toNat with
  | 0 => f.f0
  | 1 => f.f1
  | 2 => f.f2
  | _ => f.f3

/-- `Permute(eff, k)` for k in 0..7: bit 6 - k to index k, bit 7 to index 7 (42_multiplex_scheduler.md R129). -/
def permute (eff : Pattern) (k : Nat) : Bool :=
  if k < 7 then eff.getLsbD (6 - k) else eff.getLsbD 7

/-- `seg(eff)`: the eight segment bits as a number, index k at bit k (30_encoding.md R69). -/
def seg (eff : Pattern) : BitVec 8 :=
  (List.range 8).foldl (fun w k => w ||| ((BitVec.ofBool (permute eff k)).setWidth 8 <<< k)) 0#8

/-- `sel(i)` = 1 << (8 + i) (30_encoding.md R69). -/
def sel (i : Cursor) : PortWord := 1#12 <<< (8 + i.toNat)

/-- `word(eff, i)` = seg(eff) | sel(i) (30_encoding.md R69). -/
def portWord (eff : Pattern) (i : Cursor) : PortWord := (seg eff).setWidth 12 ||| sel i

end Sys2Proof.Machine
end

