-- ==== Sys2Proof/Machine/Flags.lean ====
section
/-! DEFINITION. SEG7MUX has no flags or condition codes (10_state.md R23). Its one flag-like computation is the `dot` of a cell,
which "forces the DP bit on regardless of the base pattern's own DP bit" (30_encoding.md R68). -/

namespace Sys2Proof.Machine

/-- `CellWord(cell) = cell.pattern | (cell.dot << 7)` (42_multiplex_scheduler.md R128). -/
def cellWord (cell : Cell) : Pattern :=
  cell.pattern ||| ((BitVec.ofBool cell.dot).setWidth 8 <<< 7)

end Sys2Proof.Machine
end

