-- ==== Sys2Proof/Machine/Ops.lean ====
section
/-! DEFINITION. The named operations over the state: the port and text primitives, what an operation gives back, and the one
exceptional ending SEG7MUX has, `skip(MissingCollaborator)`. Every meaning is made of these. -/

namespace Sys2Proof.Machine

/-- The operation gives `a` back (43_port_and_text_interfaces.md R150, log 10). -/
def State.answering (s : State) (a : Option Answer) : State := { s with answer := a }

/-- `PortSetBit(k, v)` (43_port_and_text_interfaces.md R151). -/
def State.setBit (s : State) (l : Line) (v : Bool) : State :=
  { s with portBuf := setLine s.portBuf l v, trace := s.trace ++ [.setBit l v] }

/-- `PortCommit()` (43_port_and_text_interfaces.md R152); the new value of the lines is put on record. -/
def State.commit (s : State) : State :=
  { s with portOut := s.portBuf, trace := s.trace ++ [.commit], lineLog := s.lineLog ++ [s.portBuf] }

/-- `CURSOR <- i`. -/
def State.withCursor (s : State) (i : Cursor) : State := { s with cursor := i }

/-- The per-tick values become `v` (10_state.md R24). -/
def State.withPerTick (s : State) (v : TickVals) : State := { s with perTick := v }

/-- The guard's condition (42_multiplex_scheduler.md R122): both collaborators are there. -/
def State.bothBound (s : State) : Bool := s.textAvail && s.portAvail

/-- `TextRead()`: the whole text at one instant (43_port_and_text_interfaces.md R155, 20_memory.md R44). It "is defined only
when TEXT_AVAIL = 1"; otherwise the text is a free value (log 7). -/
def State.readText (s : State) : List Code :=
  if s.textAvail then s.text else Config.unboundText s.draws

/-- The state after a `TextRead()`: nothing is written (R155); a free text counts as drawn (log 7). -/
def State.afterRead (s : State) : State :=
  if s.textAvail then s else { s with draws := s.draws + 1 }

/-- `SETBIT(k, v)` for every line of a list in turn, the values given by `v`. -/
def State.setBits (s : State) (ls : List Line) (v : Line → Bool) : State :=
  ls.foldl (fun s l => s.setBit l (v l)) s

/-- `skip(MissingCollaborator)`, the one exceptional ending (60_exceptions.md R171, R172): result `Skipped`, and no other
change. No condition saves or restores state (R178), and there is no return operation (R179). -/
def skipMissingCollaborator (s : State) : Result :=
  .next (s.answering (some (.result .skipped)))

/-- The stop for a port index outside 0 to 11 (30_encoding.md R64). -/
def portIndexFault : Result := .fault .portIndexOutsideDomain

/-- One SETBIT, with nothing given back (43_port_and_text_interfaces.md R151, R154 (c)). -/
def setBitOp (l : Line) (v : Bool) (s : State) : Result := .next ((s.setBit l v).answering none)

/-- RESET's effect: `CURSOR <- CURSOR_RESET`, `T <- []`, no port transaction (70_reset_and_hazards.md R190). -/
def State.resetOp (s : State) : State :=
  { s with cursor := Config.cursorReset, trace := [], lineLog := [], answer := none }

/-- What a move of the outside world does (43_port_and_text_interfaces.md R160, 10_state.md R26). -/
def applyInput (x : Input) (s : State) : State :=
  match x with
  | .ownerText t => { s with text := t, answer := none }
  | .textLevel b => { s with textAvail := b, answer := none }
  | .portLevel b => { s with portAvail := b, answer := none }
  | .systemReset => { s.resetOp with textAvail := false, portAvail := false }

/-- The next event of the scenario, and the state with that event taken out (log 1). -/
def takeEvent (s : State) : Option (Event × State) :=
  match s.scenario with
  | [] => none
  | e :: rest => some (e, { s with scenario := rest })

/-- `s` with a request put before everything the scenario holds. -/
def State.withRequest (s : State) (bytes : List Byte) : State :=
  { s with scenario := .request bytes :: s.scenario }

end Sys2Proof.Machine
end

