-- ==== Sys2Proof/Machine/HostEntries.lean ====
section
/-! DEFINITION. The text source's read and the host's entries: TEXTREAD, BIND_TEXT, BIND_PORT, RESET
(43_port_and_text_interfaces.md R155, R157, R158; 70_reset_and_hazards.md R190). -/

namespace Sys2Proof.Machine

/-- TEXTREAD (43_port_and_text_interfaces.md R155). -/
def execTextread (s : State) : Result := .next (s.afterRead.answering (some (.text s.readText)))

/-- BIND_TEXT: `TEXT_AVAIL <- 1` (43_port_and_text_interfaces.md R157). DESIGN CHOICE, log 21: there is one text source, the one whose
text State holds, so BIND_TEXT takes no source and leaves TEXT; a newly bound source with another text is an `ownerText` event. -/
def execBindText (s : State) : Result := .next { s with textAvail := true, answer := none }

/-- BIND_PORT: `PORT_AVAIL <- 1` and nothing else (43_port_and_text_interfaces.md R158). -/
def execBindPort (s : State) : Result := .next { s with portAvail := true, answer := none }

/-- RESET (70_reset_and_hazards.md R190); the availability inputs are the host's (log 15). -/
def execReset (s : State) : Result := .next s.resetOp

end Sys2Proof.Machine
end

