-- ==== Sys2Proof/Machine/Port.lean ====
section
/-! DEFINITION. The output port: SETBIT, COMMIT and the PORTIDX rows, each the SETBIT of its line
(43_port_and_text_interfaces.md R151, R152; 10_state.md R29; log 13). -/

namespace Sys2Proof.Machine

/-- PORT_A: SETBIT(0, v), line A (10_state.md R29). -/
def execPortA (v : Bool) (s : State) : Result := setBitOp .segA v s

/-- PORT_B: SETBIT(1, v), line B (10_state.md R29). -/
def execPortB (v : Bool) (s : State) : Result := setBitOp .segB v s

/-- PORT_C: SETBIT(2, v), line C (10_state.md R29). -/
def execPortC (v : Bool) (s : State) : Result := setBitOp .segC v s

/-- PORT_D: SETBIT(3, v), line D (10_state.md R29). -/
def execPortD (v : Bool) (s : State) : Result := setBitOp .segD v s

/-- PORT_E: SETBIT(4, v), line E (10_state.md R29). -/
def execPortE (v : Bool) (s : State) : Result := setBitOp .segE v s

/-- PORT_F: SETBIT(5, v), line F (10_state.md R29). -/
def execPortF (v : Bool) (s : State) : Result := setBitOp .segF v s

/-- PORT_G: SETBIT(6, v), line G (10_state.md R29). -/
def execPortG (v : Bool) (s : State) : Result := setBitOp .segG v s

/-- PORT_DP: SETBIT(7, v), line DP (10_state.md R29). -/
def execPortDP (v : Bool) (s : State) : Result := setBitOp .segDP v s

/-- PORT_SEL0: SETBIT(8, v), line SEL0 (10_state.md R29). -/
def execPortSel0 (v : Bool) (s : State) : Result := setBitOp .sel0 v s

/-- PORT_SEL1: SETBIT(9, v), line SEL1 (10_state.md R29). -/
def execPortSel1 (v : Bool) (s : State) : Result := setBitOp .sel1 v s

/-- PORT_SEL2: SETBIT(10, v), line SEL2 (10_state.md R29). -/
def execPortSel2 (v : Bool) (s : State) : Result := setBitOp .sel2 v s

/-- PORT_SEL3: SETBIT(11, v), line SEL3 (10_state.md R29). -/
def execPortSel3 (v : Bool) (s : State) : Result := setBitOp .sel3 v s

/-- PORT_UNUSED: indices 12 to 15 "are never produced by SEG7MUX and have no meaning" (30_encoding.md R64): the machine stops,
whatever the value given. -/
def execPortUnused (_k : BitVec 2) (_v : Bool) (_s : State) : Result := portIndexFault

/-- SETBIT (43_port_and_text_interfaces.md R151); an index outside 0 to 11 is outside its domain. -/
def execSetbit (k : BitVec 4) (v : Bool) (s : State) : Result :=
  match lineOfIndex k with
  | some l => setBitOp l v s
  | none => portIndexFault

/-- COMMIT (43_port_and_text_interfaces.md R152). -/
def execCommit (s : State) : Result := .next (s.commit.answering none)

end Sys2Proof.Machine
end

