-- ==== Sys2Proof/Machine/Encoder.lean ====
section
/-! DEFINITION. The segment encoder: the glyph ROM, ENCODE, and the CHAR rows (40_segment_encoder.md). -/

namespace Sys2Proof.Machine

/-- ROM contents for codes 0x20 to 0x2F (40_segment_encoder.md R82, R88). -/
def romPunctuation : List Pattern :=
  [0x00#8, Config.symrom 0x21#8, Config.symrom 0x22#8, 0x00#8, 0x00#8, Config.symrom 0x25#8,
   0x00#8, Config.symrom 0x27#8, Config.symrom 0x28#8, Config.symrom 0x29#8, Config.symrom 0x2A#8, Config.symrom 0x2B#8,
   Config.symrom 0x2C#8, 0x01#8, 0x80#8, Config.symrom 0x2F#8]

/-- ROM contents for codes 0x30 to 0x39 (40_segment_encoder.md R83). -/
def romDigits : List Pattern :=
  [0x7E#8, 0x30#8, 0x6D#8, 0x79#8, 0x33#8, 0x5B#8,
   0x5F#8, 0x70#8, 0x7F#8, 0x7B#8]

/-- ROM contents for codes 0x3A to 0x40 (40_segment_encoder.md R85, R88). -/
def romSymbols : List Pattern :=
  [Config.symrom 0x3A#8, Config.symrom 0x3B#8, 0x00#8, Config.symrom 0x3D#8, 0x00#8, Config.symrom 0x3F#8,
   0x6F#8]

/-- ROM contents for codes 0x41 to 0x5A (40_segment_encoder.md R84, R85). -/
def romUpper : List Pattern :=
  [0x77#8, 0x1F#8, 0x4E#8, 0x3D#8, 0x4F#8, 0x47#8,
   0x5E#8, 0x37#8, 0x30#8, 0x3C#8, 0x00#8, 0x0E#8,
   0x00#8, 0x15#8, 0x7E#8, 0x67#8, 0xFE#8, 0x05#8,
   0x5B#8, 0x07#8, 0x3E#8, 0x3E#8, 0x3F#8, 0x00#8,
   0x27#8, 0x6D#8]

/-- ROM contents for codes 0x5B to 0x60 (40_segment_encoder.md R88). -/
def romBrackets : List Pattern :=
  [Config.symrom 0x5B#8, Config.symrom 0x5C#8, Config.symrom 0x5D#8, Config.symrom 0x5E#8, Config.symrom 0x5F#8, Config.symrom 0x60#8]

/-- ROM contents for codes 0x61 to 0x7A (40_segment_encoder.md R86, R87). -/
def romLower : List Pattern :=
  [0x77#8, 0x1F#8, 0x0D#8, 0x3D#8, 0x4F#8, 0x47#8,
   0x5E#8, 0x17#8, 0x10#8, 0x3C#8, 0x00#8, 0x0E#8,
   0x00#8, 0x15#8, 0x1D#8, 0x67#8, 0x00#8, 0x05#8,
   0x5B#8, 0x07#8, 0x1C#8, 0x1C#8, 0x00#8, 0x00#8,
   0x27#8, 0x00#8]

/-- ROM contents for codes 0x7B to 0x7E (40_segment_encoder.md R88). -/
def romBraces : List Pattern :=
  [Config.symrom 0x7B#8, Config.symrom 0x7C#8, Config.symrom 0x7D#8, Config.symrom 0x7E#8]

/-- `ROM[0..94]` in address order, a constant (10_state.md R21, 40_segment_encoder.md R90). -/
def glyphRom : List Pattern :=
  romPunctuation ++ romDigits ++ romSymbols ++ romUpper ++ romBrackets ++ romLower ++ romBraces

/-- The ROM has 95 entries (40_segment_encoder.md R80). -/
theorem glyphRom_length : glyphRom.length = 95 := rfl

/-- `RomRead(a)`, "defined only for a in 0..94" (00_scope.md section 6): no other address can be formed (20_memory.md R42). -/
def romRead (a : Fin 95) : Pattern := glyphRom[a.val]'(by rw [glyphRom_length]; exact a.isLt)

/-- `Encode(c)` (40_segment_encoder.md R81, R67, R89). -/
def encodeChar (c : Code) : Pattern :=
  if h : 32 ≤ c.toNat ∧ c.toNat ≤ 126 then romRead ⟨c.toNat - 32, by omega⟩ else 0#8

/-- ENCODE's answer for one code; no state is written and no error is raised (40_segment_encoder.md R81). -/
def answerGlyph (c : Code) (s : State) : Result :=
  .next (s.answering (some (.pattern (encodeChar c))))

/-- CHAR_LOW (R89): a code below 32 gives the blank pattern. -/
def execCharLow (c : BitVec 5) (s : State) : Result := answerGlyph (c.setWidth 8) s

/-- CHAR_20 (R82): ENCODE of the character space. -/
def execChar20 (s : State) : Result := answerGlyph 0x20#8 s

/-- CHAR_21 (R88): ENCODE of the character !. -/
def execChar21 (s : State) : Result := answerGlyph 0x21#8 s

/-- CHAR_22 (R88): ENCODE of the character double quote. -/
def execChar22 (s : State) : Result := answerGlyph 0x22#8 s

/-- CHAR_23 (R88): ENCODE of the character #. -/
def execChar23 (s : State) : Result := answerGlyph 0x23#8 s

/-- CHAR_24 (R88): ENCODE of the character $. -/
def execChar24 (s : State) : Result := answerGlyph 0x24#8 s

/-- CHAR_25 (R88): ENCODE of the character %. -/
def execChar25 (s : State) : Result := answerGlyph 0x25#8 s

/-- CHAR_26 (R88): ENCODE of the character &. -/
def execChar26 (s : State) : Result := answerGlyph 0x26#8 s

/-- CHAR_27 (R88): ENCODE of the character apostrophe. -/
def execChar27 (s : State) : Result := answerGlyph 0x27#8 s

/-- CHAR_28 (R88): ENCODE of the character (. -/
def execChar28 (s : State) : Result := answerGlyph 0x28#8 s

/-- CHAR_29 (R88): ENCODE of the character ). -/
def execChar29 (s : State) : Result := answerGlyph 0x29#8 s

/-- CHAR_2A (R88): ENCODE of the character *. -/
def execChar2A (s : State) : Result := answerGlyph 0x2A#8 s

/-- CHAR_2B (R88): ENCODE of the character +. -/
def execChar2B (s : State) : Result := answerGlyph 0x2B#8 s

/-- CHAR_2C (R88): ENCODE of the character ,. -/
def execChar2C (s : State) : Result := answerGlyph 0x2C#8 s

/-- CHAR_2D (R82): ENCODE of the character dash. -/
def execChar2D (s : State) : Result := answerGlyph 0x2D#8 s

/-- CHAR_2E (R82): ENCODE of the character dot. -/
def execChar2E (s : State) : Result := answerGlyph 0x2E#8 s

/-- CHAR_2F (R88): ENCODE of the character /. -/
def execChar2F (s : State) : Result := answerGlyph 0x2F#8 s

/-- CHAR_30 (R83): ENCODE of the character 0. -/
def execChar30 (s : State) : Result := answerGlyph 0x30#8 s

/-- CHAR_31 (R83): ENCODE of the character 1. -/
def execChar31 (s : State) : Result := answerGlyph 0x31#8 s

/-- CHAR_32 (R83): ENCODE of the character 2. -/
def execChar32 (s : State) : Result := answerGlyph 0x32#8 s

/-- CHAR_33 (R83): ENCODE of the character 3. -/
def execChar33 (s : State) : Result := answerGlyph 0x33#8 s

/-- CHAR_34 (R83): ENCODE of the character 4. -/
def execChar34 (s : State) : Result := answerGlyph 0x34#8 s

/-- CHAR_35 (R83): ENCODE of the character 5. -/
def execChar35 (s : State) : Result := answerGlyph 0x35#8 s

/-- CHAR_36 (R83): ENCODE of the character 6. -/
def execChar36 (s : State) : Result := answerGlyph 0x36#8 s

/-- CHAR_37 (R83): ENCODE of the character 7. -/
def execChar37 (s : State) : Result := answerGlyph 0x37#8 s

/-- CHAR_38 (R83): ENCODE of the character 8. -/
def execChar38 (s : State) : Result := answerGlyph 0x38#8 s

/-- CHAR_39 (R83): ENCODE of the character 9. -/
def execChar39 (s : State) : Result := answerGlyph 0x39#8 s

/-- CHAR_3A (R88): ENCODE of the character :. -/
def execChar3A (s : State) : Result := answerGlyph 0x3A#8 s

/-- CHAR_3B (R88): ENCODE of the character ;. -/
def execChar3B (s : State) : Result := answerGlyph 0x3B#8 s

/-- CHAR_3C (R88): ENCODE of the character <. -/
def execChar3C (s : State) : Result := answerGlyph 0x3C#8 s

/-- CHAR_3D (R88): ENCODE of the character =. -/
def execChar3D (s : State) : Result := answerGlyph 0x3D#8 s

/-- CHAR_3E (R88): ENCODE of the character >. -/
def execChar3E (s : State) : Result := answerGlyph 0x3E#8 s

/-- CHAR_3F (R88): ENCODE of the character ?. -/
def execChar3F (s : State) : Result := answerGlyph 0x3F#8 s

/-- CHAR_40 (R85): ENCODE of the character @. -/
def execChar40 (s : State) : Result := answerGlyph 0x40#8 s

/-- CHAR_41 (R84): ENCODE of the character A. -/
def execChar41 (s : State) : Result := answerGlyph 0x41#8 s

/-- CHAR_42 (R84): ENCODE of the character B. -/
def execChar42 (s : State) : Result := answerGlyph 0x42#8 s

/-- CHAR_43 (R84): ENCODE of the character C. -/
def execChar43 (s : State) : Result := answerGlyph 0x43#8 s

/-- CHAR_44 (R84): ENCODE of the character D. -/
def execChar44 (s : State) : Result := answerGlyph 0x44#8 s

/-- CHAR_45 (R84): ENCODE of the character E. -/
def execChar45 (s : State) : Result := answerGlyph 0x45#8 s

/-- CHAR_46 (R84): ENCODE of the character F. -/
def execChar46 (s : State) : Result := answerGlyph 0x46#8 s

/-- CHAR_47 (R84): ENCODE of the character G. -/
def execChar47 (s : State) : Result := answerGlyph 0x47#8 s

/-- CHAR_48 (R84): ENCODE of the character H. -/
def execChar48 (s : State) : Result := answerGlyph 0x48#8 s

/-- CHAR_49 (R84): ENCODE of the character I. -/
def execChar49 (s : State) : Result := answerGlyph 0x49#8 s

/-- CHAR_4A (R84): ENCODE of the character J. -/
def execChar4A (s : State) : Result := answerGlyph 0x4A#8 s

/-- CHAR_4B (R85): ENCODE of the character K. -/
def execChar4B (s : State) : Result := answerGlyph 0x4B#8 s

/-- CHAR_4C (R84): ENCODE of the character L. -/
def execChar4C (s : State) : Result := answerGlyph 0x4C#8 s

/-- CHAR_4D (R85): ENCODE of the character M. -/
def execChar4D (s : State) : Result := answerGlyph 0x4D#8 s

/-- CHAR_4E (R84): ENCODE of the character N. -/
def execChar4E (s : State) : Result := answerGlyph 0x4E#8 s

/-- CHAR_4F (R84): ENCODE of the character O. -/
def execChar4F (s : State) : Result := answerGlyph 0x4F#8 s

/-- CHAR_50 (R84): ENCODE of the character P. -/
def execChar50 (s : State) : Result := answerGlyph 0x50#8 s

/-- CHAR_51 (R85): ENCODE of the character Q. -/
def execChar51 (s : State) : Result := answerGlyph 0x51#8 s

/-- CHAR_52 (R84): ENCODE of the character R. -/
def execChar52 (s : State) : Result := answerGlyph 0x52#8 s

/-- CHAR_53 (R84): ENCODE of the character S. -/
def execChar53 (s : State) : Result := answerGlyph 0x53#8 s

/-- CHAR_54 (R84): ENCODE of the character T. -/
def execChar54 (s : State) : Result := answerGlyph 0x54#8 s

/-- CHAR_55 (R84): ENCODE of the character U. -/
def execChar55 (s : State) : Result := answerGlyph 0x55#8 s

/-- CHAR_56 (R85): ENCODE of the character V. -/
def execChar56 (s : State) : Result := answerGlyph 0x56#8 s

/-- CHAR_57 (R85): ENCODE of the character W. -/
def execChar57 (s : State) : Result := answerGlyph 0x57#8 s

/-- CHAR_58 (R85): ENCODE of the character X. -/
def execChar58 (s : State) : Result := answerGlyph 0x58#8 s

/-- CHAR_59 (R84): ENCODE of the character Y. -/
def execChar59 (s : State) : Result := answerGlyph 0x59#8 s

/-- CHAR_5A (R85): ENCODE of the character Z. -/
def execChar5A (s : State) : Result := answerGlyph 0x5A#8 s

/-- CHAR_5B (R88): ENCODE of the character [. -/
def execChar5B (s : State) : Result := answerGlyph 0x5B#8 s

/-- CHAR_5C (R88): ENCODE of the character backslash. -/
def execChar5C (s : State) : Result := answerGlyph 0x5C#8 s

/-- CHAR_5D (R88): ENCODE of the character ]. -/
def execChar5D (s : State) : Result := answerGlyph 0x5D#8 s

/-- CHAR_5E (R88): ENCODE of the character ^. -/
def execChar5E (s : State) : Result := answerGlyph 0x5E#8 s

/-- CHAR_5F (R88): ENCODE of the character _. -/
def execChar5F (s : State) : Result := answerGlyph 0x5F#8 s

/-- CHAR_60 (R88): ENCODE of the character backquote. -/
def execChar60 (s : State) : Result := answerGlyph 0x60#8 s

/-- CHAR_61 (R86): ENCODE of the character a. -/
def execChar61 (s : State) : Result := answerGlyph 0x61#8 s

/-- CHAR_62 (R86): ENCODE of the character b. -/
def execChar62 (s : State) : Result := answerGlyph 0x62#8 s

/-- CHAR_63 (R86): ENCODE of the character c. -/
def execChar63 (s : State) : Result := answerGlyph 0x63#8 s

/-- CHAR_64 (R86): ENCODE of the character d. -/
def execChar64 (s : State) : Result := answerGlyph 0x64#8 s

/-- CHAR_65 (R87): ENCODE of the character e. -/
def execChar65 (s : State) : Result := answerGlyph 0x65#8 s

/-- CHAR_66 (R87): ENCODE of the character f. -/
def execChar66 (s : State) : Result := answerGlyph 0x66#8 s

/-- CHAR_67 (R86): ENCODE of the character g. -/
def execChar67 (s : State) : Result := answerGlyph 0x67#8 s

/-- CHAR_68 (R86): ENCODE of the character h. -/
def execChar68 (s : State) : Result := answerGlyph 0x68#8 s

/-- CHAR_69 (R86): ENCODE of the character i. -/
def execChar69 (s : State) : Result := answerGlyph 0x69#8 s

/-- CHAR_6A (R87): ENCODE of the character j. -/
def execChar6A (s : State) : Result := answerGlyph 0x6A#8 s

/-- CHAR_6B (R87): ENCODE of the character k. -/
def execChar6B (s : State) : Result := answerGlyph 0x6B#8 s

/-- CHAR_6C (R87): ENCODE of the character l. -/
def execChar6C (s : State) : Result := answerGlyph 0x6C#8 s

/-- CHAR_6D (R87): ENCODE of the character m. -/
def execChar6D (s : State) : Result := answerGlyph 0x6D#8 s

/-- CHAR_6E (R86): ENCODE of the character n. -/
def execChar6E (s : State) : Result := answerGlyph 0x6E#8 s

/-- CHAR_6F (R86): ENCODE of the character o. -/
def execChar6F (s : State) : Result := answerGlyph 0x6F#8 s

/-- CHAR_70 (R87): ENCODE of the character p. -/
def execChar70 (s : State) : Result := answerGlyph 0x70#8 s

/-- CHAR_71 (R87): ENCODE of the character q. -/
def execChar71 (s : State) : Result := answerGlyph 0x71#8 s

/-- CHAR_72 (R87): ENCODE of the character r. -/
def execChar72 (s : State) : Result := answerGlyph 0x72#8 s

/-- CHAR_73 (R87): ENCODE of the character s. -/
def execChar73 (s : State) : Result := answerGlyph 0x73#8 s

/-- CHAR_74 (R87): ENCODE of the character t. -/
def execChar74 (s : State) : Result := answerGlyph 0x74#8 s

/-- CHAR_75 (R86): ENCODE of the character u. -/
def execChar75 (s : State) : Result := answerGlyph 0x75#8 s

/-- CHAR_76 (R86): ENCODE of the character v. -/
def execChar76 (s : State) : Result := answerGlyph 0x76#8 s

/-- CHAR_77 (R87): ENCODE of the character w. -/
def execChar77 (s : State) : Result := answerGlyph 0x77#8 s

/-- CHAR_78 (R87): ENCODE of the character x. -/
def execChar78 (s : State) : Result := answerGlyph 0x78#8 s

/-- CHAR_79 (R87): ENCODE of the character y. -/
def execChar79 (s : State) : Result := answerGlyph 0x79#8 s

/-- CHAR_7A (R86): ENCODE of the character z. -/
def execChar7A (s : State) : Result := answerGlyph 0x7A#8 s

/-- CHAR_7B (R88): ENCODE of the character opening brace. -/
def execChar7B (s : State) : Result := answerGlyph 0x7B#8 s

/-- CHAR_7C (R88): ENCODE of the character vertical bar. -/
def execChar7C (s : State) : Result := answerGlyph 0x7C#8 s

/-- CHAR_7D (R88): ENCODE of the character closing brace. -/
def execChar7D (s : State) : Result := answerGlyph 0x7D#8 s

/-- CHAR_7E (R88): ENCODE of the character ~. -/
def execChar7E (s : State) : Result := answerGlyph 0x7E#8 s

/-- CHAR_7F (R89): code 127 gives the blank pattern. -/
def execChar7F (s : State) : Result := answerGlyph 0x7F#8 s

/-- CHAR_HIGH (R89): a code of 128 or more gives the blank pattern. -/
def execCharHigh (c : BitVec 7) (s : State) : Result := answerGlyph (BitVec.ofNat 8 (128 + c.toNat)) s

/-- ENCODE (40_segment_encoder.md R81). -/
def execEncode (c : Code) (s : State) : Result := answerGlyph c s

end Sys2Proof.Machine
end

