-- ==== Sys2Proof/Machine/Formatter.lean ====
section
/-! DEFINITION. The frame formatter: FOLD, PAD, KEEP4, FORMAT (41_frame_formatter.md). -/

namespace Sys2Proof.Machine

/-- The last cell's dot is set, if there is a last cell; otherwise the dot is dropped (41_frame_formatter.md R101). -/
def dotLast : List Cell → List Cell
  | [] => []
  | [c] => [{ c with dot := true }]
  | c :: d :: cs => c :: dotLast (d :: cs)

/-- One round of FOLD's loop (41_frame_formatter.md R101, 30_encoding.md R70). -/
def foldCode (cells : List Cell) (c : Code) : List Cell :=
  if c = Config.dotCode then dotLast cells else cells ++ [⟨encodeChar c, false⟩]

/-- `Fold(t)` (41_frame_formatter.md R101). -/
def fold (t : List Code) : List Cell := t.foldl foldCode []

/-- The pad cell, the space character's (41_frame_formatter.md R102). -/
def padCell : Cell := ⟨encodeChar Config.padCode, false⟩

/-- `Pad(cs)` (41_frame_formatter.md R102). -/
def pad (cs : List Cell) : List Cell :=
  if cs.length < 4 then List.replicate (4 - cs.length) padCell ++ cs else cs

/-- `Keep4(cs)` (41_frame_formatter.md R103). Fewer than four cells are outside its operands' domain: a free value (log 8). -/
def keep4 : List Cell → Frame
  | a :: b :: c :: d :: _ => ⟨a, b, c, d⟩
  | cs => Config.keep4Short cs

/-- `Format(t) = Keep4(Pad(Fold(t)))` (41_frame_formatter.md R104). -/
def format (t : List Code) : Frame := keep4 (pad (fold t))

/-- FOLD (41_frame_formatter.md R101). -/
def execFold (t : List Code) (s : State) : Result := .next (s.answering (some (.cells (fold t))))

/-- PAD (41_frame_formatter.md R102). -/
def execPad (cs : List Cell) (s : State) : Result := .next (s.answering (some (.cells (pad cs))))

/-- KEEP4 (41_frame_formatter.md R103). -/
def execKeep4 (cs : List Cell) (s : State) : Result := .next (s.answering (some (.frame (keep4 cs))))

/-- FORMAT (41_frame_formatter.md R104). -/
def execFormat (t : List Code) (s : State) : Result := .next (s.answering (some (.frame (format t))))

end Sys2Proof.Machine
end

