-- ==== Sys2Proof/Machine/Scheduler.lean ====
section
/-! DEFINITION. The multiplex scheduler: CELLWORD, PERMUTE, the eight steps of a tick, and TICK itself
(42_multiplex_scheduler.md). A TICK is one atomic transition made of the steps (R121, 20_memory.md R48); the TICKSTEP rows run
one step each (log 11). -/

namespace Sys2Proof.Machine

/-- CELLWORD (42_multiplex_scheduler.md R128). -/
def execCellword (cell : Cell) (s : State) : Result := .next (s.answering (some (.eff (cellWord cell))))

/-- PERMUTE, the eight bits `Permute(eff, k)` as the number seg(eff) (42_multiplex_scheduler.md R129, 30_encoding.md R69). -/
def execPermute (eff : Pattern) (s : State) : Result := .next (s.answering (some (.seg (seg eff))))

/-- Step 2: SETBIT(k, 0) for k = 0..11, then COMMIT (42_multiplex_scheduler.md R123). -/
def tickClear (s : State) : State := (s.setBits allLines (fun _ => false)).commit

/-- Step 3: `t <- TextRead()`, `F <- Format(t)` (42_multiplex_scheduler.md R125). -/
def tickFrame (s : State) : State :=
  s.afterRead.withPerTick { s.perTick with text := s.readText, frame := format s.readText }

/-- Step 4: `cell <- F[CURSOR]` (42_multiplex_scheduler.md R126). -/
def tickCell (s : State) : State :=
  s.withPerTick { s.perTick with cell := frameCell s.perTick.frame s.cursor }

/-- Step 5: SETBIT(8 + CURSOR, 1) (42_multiplex_scheduler.md R127). -/
def tickSelect (s : State) : State := s.setBit (selectLine s.cursor) true

/-- Step 6: `eff <- CellWord(cell)`, SETBIT(k, Permute(eff, k)) for k = 0..7 (42_multiplex_scheduler.md R129). -/
def tickSegments (s : State) : State :=
  (s.withPerTick { s.perTick with eff := cellWord s.perTick.cell }).setBits segmentLines
    (fun l => permute (cellWord s.perTick.cell) (lineIndex l))

/-- Step 7: COMMIT (42_multiplex_scheduler.md R130). -/
def tickCommit (s : State) : State := s.commit

/-- Step 8: `CURSOR <- (CURSOR + 1) mod 4` (42_multiplex_scheduler.md R131); the tick's values end with it (10_state.md R24). -/
def tickAdvance (s : State) : State := (s.withCursor (s.cursor + 1#2)).withPerTick TickVals.idle

/-- TICK.1_GUARD (42_multiplex_scheduler.md R122): the tick ends here, skipped, or goes on with no value from an earlier tick. -/
def execTick1Guard (s : State) : Result :=
  if s.bothBound then .next ((s.withPerTick TickVals.idle).answering none) else skipMissingCollaborator s

/-- TICK.2_CLEAR (42_multiplex_scheduler.md R123). -/
def execTick2Clear (s : State) : Result := .next ((tickClear s).answering none)

/-- TICK.3_FRAME (42_multiplex_scheduler.md R125). -/
def execTick3Frame (s : State) : Result := .next ((tickFrame s).answering none)

/-- TICK.4_CELL (42_multiplex_scheduler.md R126). -/
def execTick4Cell (s : State) : Result := .next ((tickCell s).answering none)

/-- TICK.5_SELECT (42_multiplex_scheduler.md R127). -/
def execTick5Select (s : State) : Result := .next ((tickSelect s).answering none)

/-- TICK.6_SEGMENTS (42_multiplex_scheduler.md R129). -/
def execTick6Segments (s : State) : Result := .next ((tickSegments s).answering none)

/-- TICK.7_COMMIT (42_multiplex_scheduler.md R130). -/
def execTick7Commit (s : State) : Result := .next ((tickCommit s).answering none)

/-- TICK.8_ADVANCE (42_multiplex_scheduler.md R131): result `Done`. -/
def execTick8Advance (s : State) : Result := .next ((tickAdvance s).answering (some (.result .done)))

/-- TICK (42_multiplex_scheduler.md R121): steps 1 to 8 as one atomic transition. -/
def execTick (s : State) : Result :=
  if s.bothBound then
    .next ((tickAdvance (tickCommit (tickSegments (tickSelect (tickCell (tickFrame (tickClear s))))))).answering
      (some (.result .done)))
  else skipMissingCollaborator s

end Sys2Proof.Machine
end

