-- ==== Sys2Proof/Machine/Dispatch.lean ====
section
/-! DEFINITION. One arm per operation: the table of meanings. -/

namespace Sys2Proof.Machine

def exec (i : Instr) (s : State) : Host.Outcome State Fault Refusal :=
  match i with
  -- format CHAR
  | .charLow c => Sys2Proof.Machine.execCharLow c s
  | .char20 => Sys2Proof.Machine.execChar20 s
  | .char21 => Sys2Proof.Machine.execChar21 s
  | .char22 => Sys2Proof.Machine.execChar22 s
  | .char23 => Sys2Proof.Machine.execChar23 s
  | .char24 => Sys2Proof.Machine.execChar24 s
  | .char25 => Sys2Proof.Machine.execChar25 s
  | .char26 => Sys2Proof.Machine.execChar26 s
  | .char27 => Sys2Proof.Machine.execChar27 s
  | .char28 => Sys2Proof.Machine.execChar28 s
  | .char29 => Sys2Proof.Machine.execChar29 s
  | .char2A => Sys2Proof.Machine.execChar2A s
  | .char2B => Sys2Proof.Machine.execChar2B s
  | .char2C => Sys2Proof.Machine.execChar2C s
  | .char2D => Sys2Proof.Machine.execChar2D s
  | .char2E => Sys2Proof.Machine.execChar2E s
  | .char2F => Sys2Proof.Machine.execChar2F s
  | .char30 => Sys2Proof.Machine.execChar30 s
  | .char31 => Sys2Proof.Machine.execChar31 s
  | .char32 => Sys2Proof.Machine.execChar32 s
  | .char33 => Sys2Proof.Machine.execChar33 s
  | .char34 => Sys2Proof.Machine.execChar34 s
  | .char35 => Sys2Proof.Machine.execChar35 s
  | .char36 => Sys2Proof.Machine.execChar36 s
  | .char37 => Sys2Proof.Machine.execChar37 s
  | .char38 => Sys2Proof.Machine.execChar38 s
  | .char39 => Sys2Proof.Machine.execChar39 s
  | .char3A => Sys2Proof.Machine.execChar3A s
  | .char3B => Sys2Proof.Machine.execChar3B s
  | .char3C => Sys2Proof.Machine.execChar3C s
  | .char3D => Sys2Proof.Machine.execChar3D s
  | .char3E => Sys2Proof.Machine.execChar3E s
  | .char3F => Sys2Proof.Machine.execChar3F s
  | .char40 => Sys2Proof.Machine.execChar40 s
  | .char41 => Sys2Proof.Machine.execChar41 s
  | .char42 => Sys2Proof.Machine.execChar42 s
  | .char43 => Sys2Proof.Machine.execChar43 s
  | .char44 => Sys2Proof.Machine.execChar44 s
  | .char45 => Sys2Proof.Machine.execChar45 s
  | .char46 => Sys2Proof.Machine.execChar46 s
  | .char47 => Sys2Proof.Machine.execChar47 s
  | .char48 => Sys2Proof.Machine.execChar48 s
  | .char49 => Sys2Proof.Machine.execChar49 s
  | .char4A => Sys2Proof.Machine.execChar4A s
  | .char4B => Sys2Proof.Machine.execChar4B s
  | .char4C => Sys2Proof.Machine.execChar4C s
  | .char4D => Sys2Proof.Machine.execChar4D s
  | .char4E => Sys2Proof.Machine.execChar4E s
  | .char4F => Sys2Proof.Machine.execChar4F s
  | .char50 => Sys2Proof.Machine.execChar50 s
  | .char51 => Sys2Proof.Machine.execChar51 s
  | .char52 => Sys2Proof.Machine.execChar52 s
  | .char53 => Sys2Proof.Machine.execChar53 s
  | .char54 => Sys2Proof.Machine.execChar54 s
  | .char55 => Sys2Proof.Machine.execChar55 s
  | .char56 => Sys2Proof.Machine.execChar56 s
  | .char57 => Sys2Proof.Machine.execChar57 s
  | .char58 => Sys2Proof.Machine.execChar58 s
  | .char59 => Sys2Proof.Machine.execChar59 s
  | .char5A => Sys2Proof.Machine.execChar5A s
  | .char5B => Sys2Proof.Machine.execChar5B s
  | .char5C => Sys2Proof.Machine.execChar5C s
  | .char5D => Sys2Proof.Machine.execChar5D s
  | .char5E => Sys2Proof.Machine.execChar5E s
  | .char5F => Sys2Proof.Machine.execChar5F s
  | .char60 => Sys2Proof.Machine.execChar60 s
  | .char61 => Sys2Proof.Machine.execChar61 s
  | .char62 => Sys2Proof.Machine.execChar62 s
  | .char63 => Sys2Proof.Machine.execChar63 s
  | .char64 => Sys2Proof.Machine.execChar64 s
  | .char65 => Sys2Proof.Machine.execChar65 s
  | .char66 => Sys2Proof.Machine.execChar66 s
  | .char67 => Sys2Proof.Machine.execChar67 s
  | .char68 => Sys2Proof.Machine.execChar68 s
  | .char69 => Sys2Proof.Machine.execChar69 s
  | .char6A => Sys2Proof.Machine.execChar6A s
  | .char6B => Sys2Proof.Machine.execChar6B s
  | .char6C => Sys2Proof.Machine.execChar6C s
  | .char6D => Sys2Proof.Machine.execChar6D s
  | .char6E => Sys2Proof.Machine.execChar6E s
  | .char6F => Sys2Proof.Machine.execChar6F s
  | .char70 => Sys2Proof.Machine.execChar70 s
  | .char71 => Sys2Proof.Machine.execChar71 s
  | .char72 => Sys2Proof.Machine.execChar72 s
  | .char73 => Sys2Proof.Machine.execChar73 s
  | .char74 => Sys2Proof.Machine.execChar74 s
  | .char75 => Sys2Proof.Machine.execChar75 s
  | .char76 => Sys2Proof.Machine.execChar76 s
  | .char77 => Sys2Proof.Machine.execChar77 s
  | .char78 => Sys2Proof.Machine.execChar78 s
  | .char79 => Sys2Proof.Machine.execChar79 s
  | .char7A => Sys2Proof.Machine.execChar7A s
  | .char7B => Sys2Proof.Machine.execChar7B s
  | .char7C => Sys2Proof.Machine.execChar7C s
  | .char7D => Sys2Proof.Machine.execChar7D s
  | .char7E => Sys2Proof.Machine.execChar7E s
  | .char7F => Sys2Proof.Machine.execChar7F s
  | .charHigh c => Sys2Proof.Machine.execCharHigh c s
  -- format PORTIDX
  | .portA v => Sys2Proof.Machine.execPortA v s
  | .portB v => Sys2Proof.Machine.execPortB v s
  | .portC v => Sys2Proof.Machine.execPortC v s
  | .portD v => Sys2Proof.Machine.execPortD v s
  | .portE v => Sys2Proof.Machine.execPortE v s
  | .portF v => Sys2Proof.Machine.execPortF v s
  | .portG v => Sys2Proof.Machine.execPortG v s
  | .portDP v => Sys2Proof.Machine.execPortDP v s
  | .portSel0 v => Sys2Proof.Machine.execPortSel0 v s
  | .portSel1 v => Sys2Proof.Machine.execPortSel1 v s
  | .portSel2 v => Sys2Proof.Machine.execPortSel2 v s
  | .portSel3 v => Sys2Proof.Machine.execPortSel3 v s
  | .portUnused k v => Sys2Proof.Machine.execPortUnused k v s
  -- format TICKSTEP
  | .tick1Guard => Sys2Proof.Machine.execTick1Guard s
  | .tick2Clear => Sys2Proof.Machine.execTick2Clear s
  | .tick3Frame => Sys2Proof.Machine.execTick3Frame s
  | .tick4Cell => Sys2Proof.Machine.execTick4Cell s
  | .tick5Select => Sys2Proof.Machine.execTick5Select s
  | .tick6Segments => Sys2Proof.Machine.execTick6Segments s
  | .tick7Commit => Sys2Proof.Machine.execTick7Commit s
  | .tick8Advance => Sys2Proof.Machine.execTick8Advance s
  -- format OPERATION
  | .encode c => Sys2Proof.Machine.execEncode c s
  | .fold t => Sys2Proof.Machine.execFold t s
  | .pad cs => Sys2Proof.Machine.execPad cs s
  | .keep4 cs => Sys2Proof.Machine.execKeep4 cs s
  | .format t => Sys2Proof.Machine.execFormat t s
  | .cellword cell => Sys2Proof.Machine.execCellword cell s
  | .permute eff => Sys2Proof.Machine.execPermute eff s
  | .tick => Sys2Proof.Machine.execTick s
  | .setbit k v => Sys2Proof.Machine.execSetbit k v s
  | .commit => Sys2Proof.Machine.execCommit s
  | .textread => Sys2Proof.Machine.execTextread s
  | .bindText => Sys2Proof.Machine.execBindText s
  | .bindPort => Sys2Proof.Machine.execBindPort s
  | .reset => Sys2Proof.Machine.execReset s

end Sys2Proof.Machine
end

