-- ==== Sys2Proof/Machine/Step.lean ====
section
/-! DEFINITION. One step: the scenario's next event, or, with none listed, the periodic tick (log 1). -/

namespace Sys2Proof.Machine

/-- One step of the machine: SEG7MUX "takes one step per TICK event and one per RESET event" (00_scope.md R7); the host and the
text owner act between ticks (43_port_and_text_interfaces.md R160). -/
def step (s : State) : Host.Outcome State Fault Refusal :=
  match takeEvent s with
  | none => exec .tick s
  | some (.input x, s') => .next (applyInput x s')
  | some (.request bytes, s') =>
    match decode bytes with
    | .ok i => exec i s'
    | .error r => .refused (.badRequest r)

/-- `s` with the request of a table row's word as its next event (log 2, log 3). -/
def State.withFetchWord (s : State) (nbits w : Nat) : State := s.withRequest (tableBytes nbits w)

end Sys2Proof.Machine
end

