-- ==== Sys2Proof/Safety.lean ====
section
/-! DEFINITION. What a safe run is, in the terms the statements use: no ghosting on the lines under exclusive ownership of the
port, and a port that agrees with the record of its transactions. -/

namespace Sys2Proof.Machine

/-- At most one digit-select line is true (42_multiplex_scheduler.md R136). -/
def atMostOneSelect (p : Lines) : Bool :=
  decide (([p.sel0, p.sel1, p.sel2, p.sel3].filter id).length ≤ 1)

/-- Whether an operation drives the port outside a whole tick: SETBIT, COMMIT and the PORTIDX rows, and the single tick steps
that issue them (20_memory.md R52: SEG7MUX is the port's only writer, and it writes in whole ticks, R48). -/
def drivesPortAlone : Instr → Bool
  | .charLow _ => false
  | .char20 => false
  | .char21 => false
  | .char22 => false
  | .char23 => false
  | .char24 => false
  | .char25 => false
  | .char26 => false
  | .char27 => false
  | .char28 => false
  | .char29 => false
  | .char2A => false
  | .char2B => false
  | .char2C => false
  | .char2D => false
  | .char2E => false
  | .char2F => false
  | .char30 => false
  | .char31 => false
  | .char32 => false
  | .char33 => false
  | .char34 => false
  | .char35 => false
  | .char36 => false
  | .char37 => false
  | .char38 => false
  | .char39 => false
  | .char3A => false
  | .char3B => false
  | .char3C => false
  | .char3D => false
  | .char3E => false
  | .char3F => false
  | .char40 => false
  | .char41 => false
  | .char42 => false
  | .char43 => false
  | .char44 => false
  | .char45 => false
  | .char46 => false
  | .char47 => false
  | .char48 => false
  | .char49 => false
  | .char4A => false
  | .char4B => false
  | .char4C => false
  | .char4D => false
  | .char4E => false
  | .char4F => false
  | .char50 => false
  | .char51 => false
  | .char52 => false
  | .char53 => false
  | .char54 => false
  | .char55 => false
  | .char56 => false
  | .char57 => false
  | .char58 => false
  | .char59 => false
  | .char5A => false
  | .char5B => false
  | .char5C => false
  | .char5D => false
  | .char5E => false
  | .char5F => false
  | .char60 => false
  | .char61 => false
  | .char62 => false
  | .char63 => false
  | .char64 => false
  | .char65 => false
  | .char66 => false
  | .char67 => false
  | .char68 => false
  | .char69 => false
  | .char6A => false
  | .char6B => false
  | .char6C => false
  | .char6D => false
  | .char6E => false
  | .char6F => false
  | .char70 => false
  | .char71 => false
  | .char72 => false
  | .char73 => false
  | .char74 => false
  | .char75 => false
  | .char76 => false
  | .char77 => false
  | .char78 => false
  | .char79 => false
  | .char7A => false
  | .char7B => false
  | .char7C => false
  | .char7D => false
  | .char7E => false
  | .char7F => false
  | .charHigh _ => false
  | .portA _ => true
  | .portB _ => true
  | .portC _ => true
  | .portD _ => true
  | .portE _ => true
  | .portF _ => true
  | .portG _ => true
  | .portDP _ => true
  | .portSel0 _ => true
  | .portSel1 _ => true
  | .portSel2 _ => true
  | .portSel3 _ => true
  | .portUnused _ _ => true
  | .tick1Guard => false
  | .tick2Clear => true
  | .tick3Frame => false
  | .tick4Cell => false
  | .tick5Select => true
  | .tick6Segments => true
  | .tick7Commit => true
  | .tick8Advance => false
  | .encode _ => false
  | .fold _ => false
  | .pad _ => false
  | .keep4 _ => false
  | .format _ => false
  | .cellword _ => false
  | .permute _ => false
  | .tick => false
  | .setbit _ _ => true
  | .commit => true
  | .textread => false
  | .bindText => false
  | .bindPort => false
  | .reset => false

/-- An event that respects exclusive ownership of the port (20_memory.md R52, log 14). -/
def respectsOwnership : Event → Bool
  | .input _ => true
  | .request bytes =>
    match decode bytes with
    | .ok i => !drivesPortAlone i
    | .error _ => true

/-- No ghosting (42_multiplex_scheduler.md R136): every value `PORT_OUT` took at a COMMIT on record has at most one select line
true, and once there is one `PORT_OUT` is the last of them; the events to come respect the port's ownership. -/
structure NoGhosting (s : State) : Prop where
  ownership : ∀ e ∈ s.scenario, respectsOwnership e = true
  committed : ∀ p ∈ s.lineLog, atMostOneSelect p = true
  lines : ∀ p, s.lineLog.getLast? = some p → s.portOut = p

/-- The value the last SETBIT of line `l` in a trace gave, if there is one. -/
def lastWritten (l : Line) : List Txn → Option Bool
  | [] => none
  | .setBit m v :: rest =>
    match lastWritten l rest with
    | some u => some u
    | none => if m = l then some v else none
  | .commit :: rest => lastWritten l rest

/-- The port agrees with the record of its transactions: `PORT_BUF[k]` is the bit most recently given to `setBit(k, .)`
(10_state.md R27), `PORT_OUT` is the value of the last COMMIT (R28), and there is one value on record per COMMIT. -/
structure PortRecords (s : State) : Prop where
  buffer : ∀ l v, lastWritten l s.trace = some v → getLine s.portBuf l = v
  lines : ∀ p, s.lineLog.getLast? = some p → s.portOut = p
  commits : s.lineLog.length = s.trace.count .commit

/-- `PORT_BUF` after each transaction of a trace (43_port_and_text_interfaces.md R151, R152). -/
def bufferValues (buf : Lines) : List Txn → List Lines
  | [] => []
  | .setBit l v :: rest => setLine buf l v :: bufferValues (setLine buf l v) rest
  | .commit :: rest => buf :: bufferValues buf rest

/-- `PORT_OUT` after each COMMIT of a trace under reading A, a shadow register (43_port_and_text_interfaces.md R153). -/
def readingA (buf : Lines) : List Txn → List Lines
  | [] => []
  | .setBit l v :: rest => readingA (setLine buf l v) rest
  | .commit :: rest => buf :: readingA buf rest

/-- `PORT_OUT` after each COMMIT of a trace under reading B, a set of pending changes emptied by COMMIT
(43_port_and_text_interfaces.md R153). -/
def readingB (out : Lines) (pending : List (Line × Bool)) : List Txn → List Lines
  | [] => []
  | .setBit l v :: rest => readingB out (pending ++ [(l, v)]) rest
  | .commit :: rest =>
    let out' := pending.foldl (fun p c => setLine p c.1 c.2) out
    out' :: readingB out' [] rest

/-- The literal reading of the source's prose: pad the characters to four, then fold, completed to four cells
(41_frame_formatter.md R106). -/
def proseFormat (t : List Code) : Frame :=
  keep4 (pad (fold (List.replicate (4 - t.length) Config.padCode ++ t)))

end Sys2Proof.Machine
end

