-- ==== Sys2Proof/Certificates/Slice0/Obligations.lean ====
section
/-! DEFINITION. The statements for the provers. Each docstring says which rule of spec/ it formalises; `Answers i a` says in one
word that an operation completes from every state, gives `a` back, and changes nothing else. -/

namespace Sys2Proof.Machine

/-- The operation completes from every state, gives `a` back and leaves every other field of the state alone. -/
def Answers (i : Instr) (a : Answer) : Prop := ∀ s : State, exec i s = .next { s with answer := some a }

/-- The code's byte is the word of row `i` (the request bytes are the model's, log 2), and both the row, run as an operation (the
model's choice, log 12), and ENCODE of the code give the pattern `p`. -/
def GlyphIs (i : Instr) (c : Code) (p : Pattern) : Prop :=
  decode [0x00#8, c] = .ok i ∧ Answers i (.pattern p) ∧ Answers (.encode c) (.pattern p)

/-- The twelve SETBITs of a tick's step 2, in ascending index (42_multiplex_scheduler.md R132). -/
def clearTransactions : List Txn :=
  [.setBit .segA false, .setBit .segB false, .setBit .segC false, .setBit .segD false, .setBit .segE false,
   .setBit .segF false, .setBit .segG false, .setBit .segDP false, .setBit .sel0 false, .setBit .sel1 false,
   .setBit .sel2 false, .setBit .sel3 false]

/-- The eight SETBITs of a tick's step 6 for the effective pattern `e` (42_multiplex_scheduler.md R132). -/
def segmentTransactions (e : Pattern) : List Txn :=
  [.setBit .segA (e.getLsbD 6), .setBit .segB (e.getLsbD 5), .setBit .segC (e.getLsbD 4), .setBit .segD (e.getLsbD 3),
   .setBit .segE (e.getLsbD 2), .setBit .segF (e.getLsbD 1), .setBit .segG (e.getLsbD 0), .setBit .segDP (e.getLsbD 7)]

/-- The 23 transactions of a completed tick (42_multiplex_scheduler.md R132). -/
def tickTransactions (e : Pattern) (i : Cursor) : List Txn :=
  clearTransactions ++ [.commit, .setBit (selectLine i) true] ++ segmentTransactions e ++ [.commit]

/-- The effective pattern a tick drives: the cell of the cursor in the text's frame, with its dot (R125, R126, R128). -/
def drivenPattern (t : List Code) (i : Cursor) : Pattern := cellWord (frameCell (format t) i)

/-- The digit word a tick commits (42_multiplex_scheduler.md R130). -/
def digitWord (t : List Code) (i : Cursor) : PortWord := portWord (drivenPattern t i) i

end Sys2Proof.Machine

open Sys2Proof Sys2Proof.Machine

/-- ENCODE is a ROM read at `c - 32` in 32..126 and the blank pattern elsewhere, and it always completes (40_segment_encoder.md R81). -/
def Obligations.EncodeReadsTheRomInsideItsDomain : Prop :=
  ∀ c : Code,
    (∀ a : Fin 95, a.val + 32 = c.toNat → Answers (.encode c) (.pattern (romRead a))) ∧
      (¬(32 ≤ c.toNat ∧ c.toNat ≤ 126) → Answers (.encode c) (.pattern 0x00#8))

/-- The decode table of ENCODE's operand is total (30_encoding.md R71, R72 (a)). The request bytes (log 2), the reading of an 8-bit table
word as a CHAR word (log 3) and a row's running as ENCODE of its code (log 12) are the model's choices. -/
def Obligations.EveryCodeByteRunsAsEncode : Prop :=
  ∀ c : Code, ∃ i, decodeTableWord 8 c.toNat = some i ∧ decode [0x00#8, c] = .ok i ∧ i.wellFormed = true ∧
    ∀ s : State, exec i s = .next { s with answer := some (.pattern (encodeChar c)) } ∧ exec i s = exec (.encode c) s

/-- The values that must be reproduced exactly as given (40_segment_encoder.md R82, R83). The request bytes (log 2) and that a CHAR row
runs as ENCODE of its code (log 12) are the model's choices. -/
def Obligations.SpaceDashDotAndDigitGlyphs : Prop :=
  GlyphIs .char20 0x20#8 0x00#8 ∧
  GlyphIs .char2D 0x2D#8 0x01#8 ∧
  GlyphIs .char2E 0x2E#8 0x80#8 ∧
  GlyphIs .char30 0x30#8 0x7E#8 ∧
  GlyphIs .char31 0x31#8 0x30#8 ∧
  GlyphIs .char32 0x32#8 0x6D#8 ∧
  GlyphIs .char33 0x33#8 0x79#8 ∧
  GlyphIs .char34 0x34#8 0x33#8 ∧
  GlyphIs .char35 0x35#8 0x5B#8 ∧
  GlyphIs .char36 0x36#8 0x5F#8 ∧
  GlyphIs .char37 0x37#8 0x70#8 ∧
  GlyphIs .char38 0x38#8 0x7F#8 ∧
  GlyphIs .char39 0x39#8 0x7B#8

/-- The 26 upper-case letters and `@` (40_segment_encoder.md R84, R85). The request bytes (log 2) and that a CHAR row runs as ENCODE of
its code (log 12) are the model's choices. -/
def Obligations.UpperCaseAndAtGlyphs : Prop :=
  GlyphIs .char41 0x41#8 0x77#8 ∧
  GlyphIs .char42 0x42#8 0x1F#8 ∧
  GlyphIs .char43 0x43#8 0x4E#8 ∧
  GlyphIs .char44 0x44#8 0x3D#8 ∧
  GlyphIs .char45 0x45#8 0x4F#8 ∧
  GlyphIs .char46 0x46#8 0x47#8 ∧
  GlyphIs .char47 0x47#8 0x5E#8 ∧
  GlyphIs .char48 0x48#8 0x37#8 ∧
  GlyphIs .char49 0x49#8 0x30#8 ∧
  GlyphIs .char4A 0x4A#8 0x3C#8 ∧
  GlyphIs .char4C 0x4C#8 0x0E#8 ∧
  GlyphIs .char4E 0x4E#8 0x15#8 ∧
  GlyphIs .char4F 0x4F#8 0x7E#8 ∧
  GlyphIs .char50 0x50#8 0x67#8 ∧
  GlyphIs .char52 0x52#8 0x05#8 ∧
  GlyphIs .char53 0x53#8 0x5B#8 ∧
  GlyphIs .char54 0x54#8 0x07#8 ∧
  GlyphIs .char55 0x55#8 0x3E#8 ∧
  GlyphIs .char59 0x59#8 0x27#8 ∧
  GlyphIs .char40 0x40#8 0x6F#8 ∧
  GlyphIs .char51 0x51#8 0xFE#8 ∧
  GlyphIs .char56 0x56#8 0x3E#8 ∧
  GlyphIs .char57 0x57#8 0x3F#8 ∧
  GlyphIs .char5A 0x5A#8 0x6D#8 ∧
  GlyphIs .char4B 0x4B#8 0x00#8 ∧
  GlyphIs .char4D 0x4D#8 0x00#8 ∧
  GlyphIs .char58 0x58#8 0x00#8 ∧
  (∀ c : Code, (0x41 ≤ c.toNat ∧ c.toNat ≤ 0x5A) ∨ (0x61 ≤ c.toNat ∧ c.toNat ≤ 0x7A) →
    ((encodeChar c).getLsbD 7 = true ↔ c = 0x51#8))

/-- The 26 lower-case letters (40_segment_encoder.md R86, R87; the reused patterns are the spec's own inference). The request bytes
(log 2) and that a CHAR row runs as ENCODE of its code (log 12) are the model's choices. -/
def Obligations.LowerCaseGlyphs : Prop :=
  GlyphIs .char61 0x61#8 0x77#8 ∧
  GlyphIs .char62 0x62#8 0x1F#8 ∧
  GlyphIs .char63 0x63#8 0x0D#8 ∧
  GlyphIs .char64 0x64#8 0x3D#8 ∧
  GlyphIs .char67 0x67#8 0x5E#8 ∧
  GlyphIs .char68 0x68#8 0x17#8 ∧
  GlyphIs .char69 0x69#8 0x10#8 ∧
  GlyphIs .char6E 0x6E#8 0x15#8 ∧
  GlyphIs .char6F 0x6F#8 0x1D#8 ∧
  GlyphIs .char75 0x75#8 0x1C#8 ∧
  GlyphIs .char76 0x76#8 0x1C#8 ∧
  GlyphIs .char7A 0x7A#8 0x00#8 ∧
  GlyphIs .char65 0x65#8 0x4F#8 ∧
  GlyphIs .char66 0x66#8 0x47#8 ∧
  GlyphIs .char6A 0x6A#8 0x3C#8 ∧
  GlyphIs .char6C 0x6C#8 0x0E#8 ∧
  GlyphIs .char70 0x70#8 0x67#8 ∧
  GlyphIs .char72 0x72#8 0x05#8 ∧
  GlyphIs .char73 0x73#8 0x5B#8 ∧
  GlyphIs .char74 0x74#8 0x07#8 ∧
  GlyphIs .char79 0x79#8 0x27#8 ∧
  GlyphIs .char6B 0x6B#8 0x00#8 ∧
  GlyphIs .char6D 0x6D#8 0x00#8 ∧
  GlyphIs .char71 0x71#8 0x00#8 ∧
  GlyphIs .char77 0x77#8 0x00#8 ∧
  GlyphIs .char78 0x78#8 0x00#8

/-- The named blanks and the 24 entries of the parameter SYMROM, for every SYMROM (40_segment_encoder.md R88): the open entries are free
values (log 4). The request bytes (log 2) and that a CHAR row runs as ENCODE of its code (log 12) are the model's choices. -/
def Obligations.SymbolGlyphs : Prop :=
  GlyphIs .char23 0x23#8 0x00#8 ∧
  GlyphIs .char24 0x24#8 0x00#8 ∧
  GlyphIs .char26 0x26#8 0x00#8 ∧
  GlyphIs .char3C 0x3C#8 0x00#8 ∧
  GlyphIs .char3E 0x3E#8 0x00#8 ∧
  GlyphIs .char21 0x21#8 (Config.symrom 0x21#8) ∧
  GlyphIs .char22 0x22#8 (Config.symrom 0x22#8) ∧
  GlyphIs .char25 0x25#8 (Config.symrom 0x25#8) ∧
  GlyphIs .char27 0x27#8 (Config.symrom 0x27#8) ∧
  GlyphIs .char28 0x28#8 (Config.symrom 0x28#8) ∧
  GlyphIs .char29 0x29#8 (Config.symrom 0x29#8) ∧
  GlyphIs .char2A 0x2A#8 (Config.symrom 0x2A#8) ∧
  GlyphIs .char2B 0x2B#8 (Config.symrom 0x2B#8) ∧
  GlyphIs .char2C 0x2C#8 (Config.symrom 0x2C#8) ∧
  GlyphIs .char2F 0x2F#8 (Config.symrom 0x2F#8) ∧
  GlyphIs .char3A 0x3A#8 (Config.symrom 0x3A#8) ∧
  GlyphIs .char3B 0x3B#8 (Config.symrom 0x3B#8) ∧
  GlyphIs .char3D 0x3D#8 (Config.symrom 0x3D#8) ∧
  GlyphIs .char3F 0x3F#8 (Config.symrom 0x3F#8) ∧
  GlyphIs .char5B 0x5B#8 (Config.symrom 0x5B#8) ∧
  GlyphIs .char5C 0x5C#8 (Config.symrom 0x5C#8) ∧
  GlyphIs .char5D 0x5D#8 (Config.symrom 0x5D#8) ∧
  GlyphIs .char5E 0x5E#8 (Config.symrom 0x5E#8) ∧
  GlyphIs .char5F 0x5F#8 (Config.symrom 0x5F#8) ∧
  GlyphIs .char60 0x60#8 (Config.symrom 0x60#8) ∧
  GlyphIs .char7B 0x7B#8 (Config.symrom 0x7B#8) ∧
  GlyphIs .char7C 0x7C#8 (Config.symrom 0x7C#8) ∧
  GlyphIs .char7D 0x7D#8 (Config.symrom 0x7D#8) ∧
  GlyphIs .char7E 0x7E#8 (Config.symrom 0x7E#8)

/-- Codes outside 32..126 are blank (40_segment_encoder.md R89). That the rows CHAR_LOW, CHAR_7F and CHAR_HIGH run as ENCODE of their
codes is the model's choice (log 12). -/
def Obligations.CodesOutsideTheRomAreBlank : Prop :=
  (∀ c : BitVec 5, Answers (.charLow c) (.pattern 0x00#8)) ∧ Answers .char7F (.pattern 0x00#8) ∧
  (∀ c : BitVec 7, Answers (.charHigh c) (.pattern 0x00#8)) ∧
  (∀ c : Code, c.toNat < 32 ∨ 126 < c.toNat → Answers (.encode c) (.pattern 0x00#8))

/-- FOLD, left to right (41_frame_formatter.md R101); that a further dot in a row sets the same dot again is the spec's choice (D11,
log 16). -/
def Obligations.FoldBuildsOneCellPerCharacter : Prop :=
  (∀ t, Answers (.fold t) (.cells (fold t))) ∧ fold [] = [] ∧
  (∀ t c, c ≠ 0x2E#8 → fold (t ++ [c]) = fold t ++ [⟨encodeChar c, false⟩]) ∧
  (∀ t, fold t = [] → fold (t ++ [0x2E#8]) = []) ∧
  (∀ t cs x, fold t = cs ++ [x] → fold (t ++ [0x2E#8]) = cs ++ [{ x with dot := true }]) ∧
  (∀ t, (fold t).length = (t.filter (fun c => c ≠ 0x2E#8)).length)

/-- Which cells carry a dot (41_frame_formatter.md R105 (d), (e)); consecutive dots act once (D11, log 16). -/
def Obligations.FoldOfCharactersWithTheirDots : Prop :=
  ∀ (m : Nat) (items : List (Code × Nat)), (∀ x ∈ items, x.1 ≠ 0x2E#8) →
    fold (List.replicate m 0x2E#8 ++ items.flatMap (fun x => x.1 :: List.replicate x.2 0x2E#8)) =
      items.map (fun x => ⟨encodeChar x.1, decide (0 < x.2)⟩)

/-- PAD (41_frame_formatter.md R102). -/
def Obligations.PadFillsBlanksAtTheLeft : Prop :=
  ∀ cs : List Cell,
    (cs.length < 4 → Answers (.pad cs) (.cells (List.replicate (4 - cs.length) ⟨0x00#8, false⟩ ++ cs))) ∧
      (4 ≤ cs.length → Answers (.pad cs) (.cells cs))

/-- KEEP4 (41_frame_formatter.md R103). -/
def Obligations.Keep4KeepsTheFirstFourCells : Prop :=
  ∀ (a b c d : Cell) (rest : List Cell), Answers (.keep4 (a :: b :: c :: d :: rest)) (.frame ⟨a, b, c, d⟩)

/-- KEEP4 of fewer than four cells: the model's choice of log 8, for every value of the free frame. -/
def Obligations.Keep4OfShortSequencesCompletes : Prop :=
  ∀ cs : List Cell, cs.length < 4 → ∃ f : Frame, Answers (.keep4 cs) (.frame f)

/-- FORMAT is the composition, fold first, pad after (41_frame_formatter.md R104). -/
def Obligations.FormatComposesFoldPadKeep : Prop :=
  ∀ t : List Code, ∃ f : Frame,
    Answers (.format t) (.frame f) ∧ f.cells = (pad (fold t)).take 4 ∧ f.cells.length = 4 ∧ 4 ≤ (pad (fold t)).length

/-- The frame depends only on the prefix before the fifth code that is not a dot (41_frame_formatter.md R105 (c)). -/
def Obligations.FormatDependsOnTheFirstFourCharacters : Prop :=
  ∀ (t u : List Code) (c : Code), 4 ≤ (t.filter (fun x => x ≠ 0x2E#8)).length → c ≠ 0x2E#8 →
    format (t ++ c :: u) = format t

/-- A text without dots (41_frame_formatter.md R105 (b)). -/
def Obligations.FormatOfTextWithoutDots : Prop :=
  ∀ t : List Code, (∀ c ∈ t, c ≠ 0x2E#8) →
    (t.length < 4 →
      (format t).cells = List.replicate (4 - t.length) ⟨0x00#8, false⟩ ++ t.map (fun c => ⟨encodeChar c, false⟩)) ∧
      (4 ≤ t.length → (format t).cells = (t.take 4).map (fun c => ⟨encodeChar c, false⟩))

/-- The two readings of the padding differ on one family only (41_frame_formatter.md R106). -/
def Obligations.ProseReadingDiffersOnOneFamily : Prop :=
  ∀ t : List Code,
    (4 ≤ t.length ∨ t.head? ≠ some 0x2E#8 → proseFormat t = format t) ∧
      (t.length < 4 → t.head? = some 0x2E#8 → proseFormat t ≠ format t)

/-- CELLWORD (42_multiplex_scheduler.md R128, 30_encoding.md R68). -/
def Obligations.CellwordForcesTheDecimalPoint : Prop :=
  ∀ p : Pattern, Answers (.cellword ⟨p, false⟩) (.eff p) ∧ Answers (.cellword ⟨p, true⟩) (.eff (p ||| 0x80#8))

/-- PERMUTE (42_multiplex_scheduler.md R129) and its being its own inverse (95_test_vectors.md T6). -/
def Obligations.PermuteReversesTheLowSevenBits : Prop :=
  ∀ e : Pattern, ∃ w : BitVec 8, Answers (.permute e) (.seg w) ∧ Answers (.permute w) (.seg e) ∧
    (∀ k, k < 7 → w.getLsbD k = e.getLsbD (6 - k)) ∧ w.getLsbD 7 = e.getLsbD 7

/-- The MissingCollaborator condition (60_exceptions.md R171, R172; 42_multiplex_scheduler.md R122). That the row TICK.1 can run alone is
the model's choice (log 11), and `answer` is its record of the result (log 10). -/
def Obligations.MissingCollaboratorSkipsTheTick : Prop :=
  ∀ s : State, ¬(s.textAvail = true ∧ s.portAvail = true) →
    exec .tick s = .next { s with answer := some (.result .skipped) } ∧
      exec .tick1Guard s = .next { s with answer := some (.result .skipped) }

/-- Step 1 with both collaborators bound (42_multiplex_scheduler.md R122); the per-tick values are the model's fields (log 11). -/
def Obligations.GuardLetsABoundTickGoOn : Prop :=
  ∀ s : State, s.textAvail = true → s.portAvail = true →
    exec .tick1Guard s = .next { s with perTick := TickVals.idle, answer := none }

/-- Step 2 (42_multiplex_scheduler.md R123); that a step's row can run alone is the model's choice (log 11), `lineLog` and `answer` are its
records (log 10). The order of the twelve is the spec's choice (D13, log 16). -/
def Obligations.ClearStepDrivesAllLinesOff : Prop :=
  ∀ s : State, exec .tick2Clear s = .next { s with
    portBuf := linesOff, portOut := linesOff, trace := s.trace ++ clearTransactions ++ [.commit],
    lineLog := s.lineLog ++ [linesOff], answer := none }

/-- Steps 3 and 4 (42_multiplex_scheduler.md R125, R126). The per-tick values as fields, and that a step's row can run alone, are the
model's choices (log 11). -/
def Obligations.FrameAndCellStepsReadTheText : Prop :=
  (∀ s : State, s.textAvail = true → exec .tick3Frame s = .next { s with
    perTick := { s.perTick with text := s.text, frame := format s.text }, answer := none }) ∧
  (∀ s : State, ∃ c : Cell, exec .tick4Cell s = .next { s with perTick := { s.perTick with cell := c }, answer := none } ∧
    s.perTick.frame.cells[s.cursor.toNat]? = some c)

/-- Step 5 (42_multiplex_scheduler.md R127); that a step's row can run alone is the model's choice (log 11). -/
def Obligations.SelectStepAssertsTheCursorsLine : Prop :=
  ∀ s : State, ∃ (l : Line) (b : Lines), lineIndex l = 8 + s.cursor.toNat ∧
    exec .tick5Select s = .next { s with portBuf := b, trace := s.trace ++ [.setBit l true], answer := none } ∧
      getLine b l = true ∧ ∀ m, m ≠ l → getLine b m = getLine s.portBuf m

/-- Step 6 (42_multiplex_scheduler.md R129). The per-tick values as fields, and that a step's row can run alone, are the model's choices
(log 11), and the order of the eight is the spec's (D13, log 16). -/
def Obligations.SegmentStepWritesThePermutedPattern : Prop :=
  ∀ s : State, ∃ b : Lines,
    exec .tick6Segments s = .next { s with
      portBuf := b, trace := s.trace ++ segmentTransactions (cellWord s.perTick.cell),
      perTick := { s.perTick with eff := cellWord s.perTick.cell }, answer := none } ∧
    (∀ k, k < 7 → (linesWord b).getLsbD k = (cellWord s.perTick.cell).getLsbD (6 - k)) ∧
    (linesWord b).getLsbD 7 = (cellWord s.perTick.cell).getLsbD 7 ∧
    (∀ k, 8 ≤ k → (linesWord b).getLsbD k = (linesWord s.portBuf).getLsbD k)

/-- COMMIT (43_port_and_text_interfaces.md R152), which is step 7 of a tick (42_multiplex_scheduler.md R130); that the step's row
can run alone is the model's choice (log 11), `lineLog` and `answer` are its records (log 10). -/
def Obligations.CommitPublishesTheBuffer : Prop :=
  ∀ s : State,
    exec .commit s = .next { s with
      portOut := s.portBuf, trace := s.trace ++ [.commit], lineLog := s.lineLog ++ [s.portBuf], answer := none } ∧
    exec .tick7Commit s = exec .commit s

/-- Step 8 (42_multiplex_scheduler.md R131); the per-tick values are the model's fields (log 11). -/
def Obligations.AdvanceStepMovesTheCursor : Prop :=
  ∀ s : State, ∃ i : Cursor, i.toNat = (s.cursor.toNat + 1) % 4 ∧
    exec .tick8Advance s = .next { s with cursor := i, perTick := TickVals.idle, answer := some (.result .done) }

/-- TICK, completed and skipped (42_multiplex_scheduler.md R121, R130 to R132); `lineLog` and `answer` are the model's records
(log 10). That the trace is exactly this one rests on the spec's choice of the order between two COMMITs (D13, log 16). -/
def Obligations.CompletedTickDrivesOneDigit : Prop :=
  (∀ s : State, ¬(s.textAvail = true ∧ s.portAvail = true) →
    exec .tick s = .next { s with answer := some (.result .skipped) }) ∧
  ∀ s : State, s.textAvail = true → s.portAvail = true →
    ∃ t, exec .tick s = .next t ∧
      t.cursor.toNat = (s.cursor.toNat + 1) % 4 ∧
      linesWord t.portOut = digitWord s.text s.cursor ∧ t.portBuf = t.portOut ∧
      t.trace = s.trace ++ tickTransactions (drivenPattern s.text s.cursor) s.cursor ∧
      lineIndex (selectLine s.cursor) = 8 + s.cursor.toNat ∧
      t.lineLog = s.lineLog ++ [linesOff, t.portOut] ∧
      t.answer = some (.result .done) ∧
      t.text = s.text ∧ t.textAvail = s.textAvail ∧ t.portAvail = s.portAvail ∧ t.scenario = s.scenario ∧ t.draws = s.draws

/-- TICK expands to its eight steps (42_multiplex_scheduler.md R121, 30_encoding.md R72 (e)). That the steps' rows can run alone is the
model's choice (log 11). -/
def Obligations.TickIsItsEightSteps : Prop :=
  ∀ s : State, s.textAvail = true → s.portAvail = true →
    ∃ s1 s2 s3 s4 s5 s6 s7 s8, exec .tick1Guard s = .next s1 ∧ exec .tick2Clear s1 = .next s2 ∧
      exec .tick3Frame s2 = .next s3 ∧ exec .tick4Cell s3 = .next s4 ∧ exec .tick5Select s4 = .next s5 ∧
      exec .tick6Segments s5 = .next s6 ∧ exec .tick7Commit s6 = .next s7 ∧ exec .tick8Advance s7 = .next s8 ∧
      exec .tick s = .next s8

/-- Nothing is carried from one tick to the next but the cursor (10_state.md R24), and nothing of the port is read (R154 (b)). The
per-tick values as fields are the model's (log 11), and so are the records `lineLog` and `answer` (log 10). -/
def Obligations.TickIgnoresThePortAndCarriedValues : Prop :=
  ∀ a b : State, a.textAvail = true → a.portAvail = true → b.textAvail = true → b.portAvail = true →
    a.cursor = b.cursor → a.text = b.text →
    ∃ t u T L, exec .tick a = .next t ∧ exec .tick b = .next u ∧
      t.cursor = u.cursor ∧ t.portBuf = u.portBuf ∧ t.portOut = u.portOut ∧ t.perTick = u.perTick ∧ t.answer = u.answer ∧
      t.trace = a.trace ++ T ∧ u.trace = b.trace ++ T ∧ t.lineLog = a.lineLog ++ L ∧ u.lineLog = b.lineLog ++ L

/-- The cycle property (42_multiplex_scheduler.md R135), for every starting cursor; `lineLog` is the
model's record of the values PORT_OUT took (log 10). -/
def Obligations.FourTicksShowEveryDigitOnce : Prop :=
  ∀ s : State, s.textAvail = true → s.portAvail = true →
    ∃ s1 s2 s3 s4, exec .tick s = .next s1 ∧ exec .tick s1 = .next s2 ∧ exec .tick s2 = .next s3 ∧ exec .tick s3 = .next s4 ∧
      s4.cursor = s.cursor ∧ s4.text = s.text ∧ s4.textAvail = true ∧ s4.portAvail = true ∧
      s4.lineLog.map linesWord = s.lineLog.map linesWord ++
        [0x000#12, digitWord s.text s.cursor, 0x000#12, digitWord s.text (s.cursor + 1),
         0x000#12, digitWord s.text (s.cursor + 2), 0x000#12, digitWord s.text (s.cursor + 3)] ∧
      ∀ j : Cursor, ([s1, s2, s3, s4].filter (fun t => getLine t.portOut (selectLine j))).length = 1

/-- The no-ghosting property (42_multiplex_scheduler.md R136), resting on exclusive ownership (20_memory.md R52). What counts as
an event that respects it is the model's choice (log 14). -/
def Obligations.StepKeepsNoGhosting : Prop :=
  ∀ s t : State, NoGhosting s → step s = .next t → NoGhosting t

/-- The last sentence of the no-ghosting property (42_multiplex_scheduler.md R136), transaction by transaction, in the
order the spec chose (D13, log 16). -/
def Obligations.BufferHoldsOneSelectInsideATick : Prop :=
  (∀ (buf : Lines) (e : Pattern) (i : Cursor),
    (∀ p ∈ (bufferValues buf (tickTransactions e i)).drop 11, atMostOneSelect p = true) ∧
      (atMostOneSelect buf = true → ∀ p ∈ bufferValues buf (tickTransactions e i), atMostOneSelect p = true) ∧
      ((bufferValues buf (tickTransactions e i)).getLast?.map linesWord) = some (portWord e i)) ∧
  ∀ s : State, s.textAvail = true → s.portAvail = true → ∃ t T, exec .tick s = .next t ∧ t.trace = s.trace ++ T ∧
    T.length = 23 ∧ (∀ p ∈ (bufferValues s.portBuf T).drop 11, atMostOneSelect p = true) ∧
      (atMostOneSelect s.portBuf = true → ∀ p ∈ bufferValues s.portBuf T, atMostOneSelect p = true) ∧
      (bufferValues s.portBuf T).getLast? = some t.portBuf

/-- The invariant holds before the first COMMIT, whatever the lines carry then (70_reset_and_hazards.md R193). -/
def Obligations.ResetHasNoGhosting : Prop :=
  NoGhosting State.reset

/-- PORT_BUF[k] is the bit most recently given to setBit(k, .) and PORT_OUT changes at a COMMIT only (10_state.md R27, R28). -/
def Obligations.StepKeepsPortRecords : Prop :=
  ∀ s t : State, PortRecords s → step s = .next t → PortRecords t

/-- The invariant holds after reset, whatever the port holds (10_state.md R27, R28). -/
def Obligations.ResetHasPortRecords : Prop :=
  PortRecords State.reset

/-- SETBIT (43_port_and_text_interfaces.md R151). -/
def Obligations.SetbitBuffersOneBit : Prop :=
  ∀ (k : BitVec 4) (v : Bool) (s : State), k.toNat < 12 → ∃ (l : Line) (b : Lines), lineIndex l = k.toNat ∧
    exec (.setbit k v) s = .next { s with portBuf := b, trace := s.trace ++ [.setBit l v], answer := none } ∧
      (linesWord b).getLsbD k.toNat = v ∧
      ∀ j, j ≠ k.toNat → (linesWord b).getLsbD j = (linesWord s.portBuf).getLsbD j

/-- Which line each index names (10_state.md R29, 30_encoding.md R64). That a PORTIDX row runs, as the SETBIT of its line with a value
operand of its own, is the model's choice (log 13). -/
def Obligations.PortRowsSetTheirOwnLine : Prop :=
  ∀ (v : Bool) (s : State),
    exec (.portA v) s = .next { s with
      portBuf := { s.portBuf with segA := v }, trace := s.trace ++ [.setBit .segA v], answer := none } ∧ exec (.portA v) s = exec (.setbit 0#4 v) s ∧
    exec (.portB v) s = .next { s with
      portBuf := { s.portBuf with segB := v }, trace := s.trace ++ [.setBit .segB v], answer := none } ∧ exec (.portB v) s = exec (.setbit 1#4 v) s ∧
    exec (.portC v) s = .next { s with
      portBuf := { s.portBuf with segC := v }, trace := s.trace ++ [.setBit .segC v], answer := none } ∧ exec (.portC v) s = exec (.setbit 2#4 v) s ∧
    exec (.portD v) s = .next { s with
      portBuf := { s.portBuf with segD := v }, trace := s.trace ++ [.setBit .segD v], answer := none } ∧ exec (.portD v) s = exec (.setbit 3#4 v) s ∧
    exec (.portE v) s = .next { s with
      portBuf := { s.portBuf with segE := v }, trace := s.trace ++ [.setBit .segE v], answer := none } ∧ exec (.portE v) s = exec (.setbit 4#4 v) s ∧
    exec (.portF v) s = .next { s with
      portBuf := { s.portBuf with segF := v }, trace := s.trace ++ [.setBit .segF v], answer := none } ∧ exec (.portF v) s = exec (.setbit 5#4 v) s ∧
    exec (.portG v) s = .next { s with
      portBuf := { s.portBuf with segG := v }, trace := s.trace ++ [.setBit .segG v], answer := none } ∧ exec (.portG v) s = exec (.setbit 6#4 v) s ∧
    exec (.portDP v) s = .next { s with
      portBuf := { s.portBuf with segDP := v }, trace := s.trace ++ [.setBit .segDP v], answer := none } ∧ exec (.portDP v) s = exec (.setbit 7#4 v) s ∧
    exec (.portSel0 v) s = .next { s with
      portBuf := { s.portBuf with sel0 := v }, trace := s.trace ++ [.setBit .sel0 v], answer := none } ∧ exec (.portSel0 v) s = exec (.setbit 8#4 v) s ∧
    exec (.portSel1 v) s = .next { s with
      portBuf := { s.portBuf with sel1 := v }, trace := s.trace ++ [.setBit .sel1 v], answer := none } ∧ exec (.portSel1 v) s = exec (.setbit 9#4 v) s ∧
    exec (.portSel2 v) s = .next { s with
      portBuf := { s.portBuf with sel2 := v }, trace := s.trace ++ [.setBit .sel2 v], answer := none } ∧ exec (.portSel2 v) s = exec (.setbit 10#4 v) s ∧
    exec (.portSel3 v) s = .next { s with
      portBuf := { s.portBuf with sel3 := v }, trace := s.trace ++ [.setBit .sel3 v], answer := none } ∧ exec (.portSel3 v) s = exec (.setbit 11#4 v) s

/-- Values 12..15 are never produced and have no meaning (30_encoding.md R64); the fault is the model's stop for them (log 13),
the request bytes are its own (log 2). -/
def Obligations.PortIndicesTwelveToFifteenStop : Prop :=
  (∀ (k : BitVec 2) (v : Bool) (s : State), exec (.portUnused k v) s = .fault .portIndexOutsideDomain) ∧
  (∀ (k : BitVec 4) (v : Bool) (s : State), 12 ≤ k.toNat →
    exec (.setbit k v) s = .fault .portIndexOutsideDomain ∧ (Instr.setbit k v).wellFormed = false ∧
      decode (encode (.setbit k v)) = .error (.setbitIndexReserved (k.setWidth 8)))

/-- The two readings of "buffers the bit" agree on every COMMIT of a tick (43_port_and_text_interfaces.md R153); `lineLog` is the model's
record of the values PORT_OUT took (log 10), and the order of the transactions is the spec's choice (D13, log 16). -/
def Obligations.BufferReadingsAgreeOnTicks : Prop :=
  (∀ (buf out : Lines) (pending : List (Line × Bool)) (e : Pattern) (i : Cursor),
    readingA buf (tickTransactions e i) = readingB out pending (tickTransactions e i) ∧
      (readingA buf (tickTransactions e i)).map linesWord = [0x000#12, portWord e i]) ∧
  ∀ s : State, s.textAvail = true → s.portAvail = true → ∃ t T, exec .tick s = .next t ∧ t.trace = s.trace ++ T ∧
    t.lineLog = s.lineLog ++ readingA s.portBuf T ∧ (readingA s.portBuf T).getLast? = some t.portOut ∧
      ∀ pending, readingB s.portOut pending T = readingA s.portBuf T

/-- TEXTREAD (43_port_and_text_interfaces.md R155). -/
def Obligations.TextreadGivesTheWholeText : Prop :=
  ∀ s : State, s.textAvail = true → exec .textread s = .next { s with answer := some (.text s.text) }

/-- TEXTREAD outside its domain: the model's choice of log 7, for every value of the free text. -/
def Obligations.UnboundTextReadsComplete : Prop :=
  ∀ s : State, s.textAvail = false → ∃ t : List Code,
    exec .textread s = .next { s with draws := s.draws + 1, answer := some (.text t) } ∧
      exec .tick3Frame s = .next { s with
        draws := s.draws + 1, perTick := { s.perTick with text := t, frame := format t }, answer := none }

/-- BIND_TEXT and BIND_PORT (43_port_and_text_interfaces.md R157, R158). That TEXT stays, the bound source being the one whose text State
holds, is the model's choice (log 21), and `answer` is its record (log 10). -/
def Obligations.BindingRaisesOneLevelOnly : Prop :=
  ∀ s : State, exec .bindText s = .next { s with textAvail := true, answer := none } ∧
    exec .bindPort s = .next { s with portAvail := true, answer := none }

/-- RESET (70_reset_and_hazards.md R190); that the model's own records are emptied with the trace is log 10, that the levels stay
is log 15, that CURSOR is 0 is D5 (log 16). -/
def Obligations.ResetOperationZeroesTheCursor : Prop :=
  ∀ s : State, exec .reset s = .next { s with cursor := 0#2, trace := [], lineLog := [], answer := none }

/-- The reset values (70_reset_and_hazards.md R191). The port and the text are free values, of which nothing is known (log 5, log 6); the
values of the model's own fields are log 1, log 7, log 10 and log 11, that a step from it is a TICK is log 1, and that CURSOR
is 0 is D5 (log 16). -/
def Obligations.ResetStateIsAsTheSpecSays : Prop :=
  State.reset.cursor = 0#2 ∧ State.reset.trace = [] ∧ State.reset.textAvail = false ∧ State.reset.portAvail = false ∧
  (∀ l, getLine State.reset.portBuf l = Config.portBufReset (lineIndex l)) ∧
  (∀ l, getLine State.reset.portOut l = Config.portOutReset (lineIndex l)) ∧
  State.reset.text = Config.textReset ∧
  State.reset.lineLog = [] ∧ State.reset.answer = none ∧ State.reset.scenario = [] ∧ State.reset.draws = 0 ∧
  State.reset.perTick = TickVals.idle ∧
  step State.reset = .next { State.reset with answer := some (.result .skipped) }

/-- The first tick after RESET (70_reset_and_hazards.md R192); `lineLog` is the model's record of the values PORT_OUT took (log 10).
That a tick straight after the operation RESET can find both levels 1 is the model's choice, since RESET leaves them (log 15), that
BIND_TEXT leaves TEXT is log 21, and that the first digit is digit 0 is D5 (log 16). -/
def Obligations.FirstTickAfterResetShowsDigitZero : Prop :=
  ∀ s : State, ∃ r t, exec .reset s = .next r ∧ exec .tick r = .next t ∧
    (r.textAvail = true ∧ r.portAvail = true →
      t.cursor = 1#2 ∧ t.lineLog.map linesWord = r.lineLog.map linesWord ++ [0x000#12, digitWord r.text 0#2] ∧
        linesWord t.portOut = digitWord r.text 0#2) ∧
    (¬(r.textAvail = true ∧ r.portAvail = true) → t = { r with answer := some (.result .skipped) }) ∧
    ∃ u v w, exec .bindText r = .next u ∧ exec .bindPort u = .next v ∧ exec .tick v = .next w ∧
      w.cursor = 1#2 ∧ w.lineLog.map linesWord = r.lineLog.map linesWord ++ [0x000#12, digitWord r.text 0#2] ∧
        linesWord w.portOut = digitWord r.text 0#2

/-- The round trip over all rows of the table; the request bytes are the model's own (log 2). -/
def Obligations.DecodingEncodedOperationsGivesThemBack : Prop :=
  ∀ i : Instr, i.wellFormed = true → decode (encode i) = .ok i

/-- Decoding is exact: no byte string but an operation's own encoding is read as it (log 2). -/
def Obligations.DecodedRequestsAreWellFormed : Prop :=
  ∀ (bytes : List Byte) (i : Instr), decode bytes = .ok i → i.wellFormed = true ∧ encode i = bytes

/-- How a step comes to run an operation; the scenario, the request bytes and the reading of a table word are the model's own (log 1,
log 2, log 3). -/
def Obligations.StepRunsTheDecodedRequest : Prop :=
  (∀ (s : State) (bytes : List Byte) (rest : List Event) (i : Instr),
    s.scenario = .request bytes :: rest → decode bytes = .ok i → i.wellFormed = true →
      step s = exec i { s with scenario := rest }) ∧
  (∀ (s : State) (nbits w : Nat) (i : Instr), decodeTableWord nbits w = some i →
    step (s.withFetchWord nbits w) = exec i s)

/-- The moves of the text owner and the host (43_port_and_text_interfaces.md R160). The system reset is the exception: it writes CURSOR,
the trace and the record as RESET does, beside both levels, and that event is the model's choice (log 15). That moves come as events
of the scenario is log 1, that `answer` and `lineLog` are the model's records is log 10. -/
def Obligations.OutsideMovesChangeOnlyTheirInput : Prop :=
  ∀ (s : State) (rest : List Event),
    (∀ t, s.scenario = .input (.ownerText t) :: rest →
      step s = .next { s with text := t, answer := none, scenario := rest }) ∧
    (∀ b, s.scenario = .input (.textLevel b) :: rest →
      step s = .next { s with textAvail := b, answer := none, scenario := rest }) ∧
    (∀ b, s.scenario = .input (.portLevel b) :: rest →
      step s = .next { s with portAvail := b, answer := none, scenario := rest }) ∧
    (s.scenario = .input .systemReset :: rest →
      step s = .next { s with cursor := 0#2, trace := [], lineLog := [], textAvail := false, portAvail := false,
                              answer := none, scenario := rest })

/-- The periodic tick; the model's choice of log 1. -/
def Obligations.StepWithoutEventsIsATick : Prop :=
  ∀ s : State, s.scenario = [] → step s = exec .tick s

/-- Words written out from the tables (spec/opcode_table.json), in the layout of log 2. -/
def Obligations.WordsWrittenFromTheTablesDecode : Prop :=
  decode [0b00000000#8, 0b00011111#8] = .ok (.charLow 31#5) ∧ decode [0b00000000#8, 0b01010001#8] = .ok .char51 ∧
  decode [0b00000000#8, 0b01111111#8] = .ok .char7F ∧ decode [0b00000000#8, 0b11111111#8] = .ok (.charHigh 127#7) ∧
  decode [0b00000001#8, 0b00000111#8, 1#8] = .ok (.portDP true) ∧
  decode [0b00000001#8, 0b00001011#8, 0#8] = .ok (.portSel3 false) ∧
  decode [0b00000010#8, 0b00000110#8] = .ok .tick6Segments ∧
  decode [0b00000011#8, 0b00001000#8, 0b00001001#8, 1#8] = .ok (.setbit 9#4 true) ∧
  decode [0b00000011#8, 0b00000001#8, 0x32#8, 0x2E#8] = .ok (.fold [0x32#8, 0x2E#8]) ∧
  decode [0b00000011#8, 0b00000101#8, 0x6D#8, 1#8] = .ok (.cellword ⟨0x6D#8, true⟩) ∧
  decode [0b00000011#8, 0b00000011#8, 0x30#8, 0#8] = .ok (.keep4 [⟨0x30#8, false⟩])

/-- Who may write CURSOR (10_state.md R22); RESET is R190, and that TICK.8 can run alone is the model's choice (log 11). -/
def Obligations.OnlyTicksAndResetWriteTheCursor : Prop :=
  ∀ (i : Instr) (s t : State), exec i s = .next t → t.cursor = s.cursor ∨ i = .tick ∨ i = .tick8Advance ∨ i = .reset

/-- TEXT is read-only to SEG7MUX and the levels are the host's (10_state.md R25, R26). That the operation RESET leaves the levels as they
are is the model's choice (log 15), that BIND_TEXT leaves TEXT is log 21, and the scenario is the model's own (log 1). -/
def Obligations.NoOperationWritesTheInputs : Prop :=
  ∀ (i : Instr) (s t : State), exec i s = .next t →
    t.text = s.text ∧ t.scenario = s.scenario ∧
      (i = .bindText → t.textAvail = true) ∧ (i ≠ .bindText → t.textAvail = s.textAvail) ∧
      (i = .bindPort → t.portAvail = true) ∧ (i ≠ .bindPort → t.portAvail = s.portAvail)

/-- PORT_OUT changes only at a COMMIT (10_state.md R28); `lineLog`, the record of the values it took, and its emptying by RESET are the
model's (log 10). -/
def Obligations.LinesMoveOnlyAtACommit : Prop :=
  ∀ (i : Instr) (s t : State), exec i s = .next t →
    (i = .commit ∨ i = .tick ∨ i = .tick2Clear ∨ i = .tick7Commit ∨
      (t.portOut = s.portOut ∧ (i ≠ .reset → t.lineLog = s.lineLog))) ∧
    (i = .reset → t.trace = [] ∧ t.lineLog = []) ∧
    (i ≠ .reset → ∃ T L, t.trace = s.trace ++ T ∧ t.lineLog = s.lineLog ++ L ∧ L.length = T.count .commit ∧
      (L = [] → t.portOut = s.portOut) ∧ ∀ p, L.getLast? = some p → t.portOut = p)

/-- No condition of SEG7MUX stops it (60_exceptions.md R170, R178). That rows run as operations of their own (log 11, log 12, log 13), and
that TEXTREAD and TICK.3 of an unbound text (log 7) and KEEP4 of a short sequence (log 8) go on, are the model's choices. -/
def Obligations.EveryOperationInDomainCompletes : Prop :=
  ∀ i : Instr, i.wellFormed = true → (∀ k v, i ≠ .portUnused k v) → ∀ s : State, ∃ t, exec i s = .next t

/-- The combinational operations, by the bytes that ask for them: format CHAR, and the operations 0 to 6 (log 2). That a CHAR row runs
(log 12) and that KEEP4 of a short sequence goes on (log 8) are the model's choices. -/
def Obligations.FoldAndFormatLeaveTheMachineAlone : Prop :=
  ∀ (i : Instr) (bytes : List Byte), decode bytes = .ok i →
    (bytes.head? = some 0x00#8 ∨ (bytes.head? = some 0x03#8 ∧ ∃ n : Fin 7, bytes[1]? = some (BitVec.ofNat 8 n.val))) →
      ∀ s : State, ∃ a : Answer, exec i s = .next { s with answer := some a }
end

