-- ==== Sys2Proof/Laws/State.lean ====
section
/-! SUPPORT. One lemma per field per update of State, so that no later proof unfolds a record update. -/

namespace Sys2Proof.Machine

@[simp] theorem answering_cursor (s : State) (a : Option Answer) : (s.answering a).cursor = s.cursor := rfl
@[simp] theorem answering_portBuf (s : State) (a : Option Answer) : (s.answering a).portBuf = s.portBuf := rfl
@[simp] theorem answering_portOut (s : State) (a : Option Answer) : (s.answering a).portOut = s.portOut := rfl
@[simp] theorem answering_text (s : State) (a : Option Answer) : (s.answering a).text = s.text := rfl
@[simp] theorem answering_textAvail (s : State) (a : Option Answer) : (s.answering a).textAvail = s.textAvail := rfl
@[simp] theorem answering_portAvail (s : State) (a : Option Answer) : (s.answering a).portAvail = s.portAvail := rfl
@[simp] theorem answering_perTick (s : State) (a : Option Answer) : (s.answering a).perTick = s.perTick := rfl
@[simp] theorem answering_trace (s : State) (a : Option Answer) : (s.answering a).trace = s.trace := rfl
@[simp] theorem answering_lineLog (s : State) (a : Option Answer) : (s.answering a).lineLog = s.lineLog := rfl
@[simp] theorem answering_answer (s : State) (a : Option Answer) : (s.answering a).answer = a := rfl
@[simp] theorem answering_scenario (s : State) (a : Option Answer) : (s.answering a).scenario = s.scenario := rfl
@[simp] theorem answering_draws (s : State) (a : Option Answer) : (s.answering a).draws = s.draws := rfl

@[simp] theorem setBit_cursor (s : State) (l : Line) (v : Bool) : (s.setBit l v).cursor = s.cursor := rfl
@[simp] theorem setBit_portBuf (s : State) (l : Line) (v : Bool) : (s.setBit l v).portBuf = setLine s.portBuf l v := rfl
@[simp] theorem setBit_portOut (s : State) (l : Line) (v : Bool) : (s.setBit l v).portOut = s.portOut := rfl
@[simp] theorem setBit_text (s : State) (l : Line) (v : Bool) : (s.setBit l v).text = s.text := rfl
@[simp] theorem setBit_textAvail (s : State) (l : Line) (v : Bool) : (s.setBit l v).textAvail = s.textAvail := rfl
@[simp] theorem setBit_portAvail (s : State) (l : Line) (v : Bool) : (s.setBit l v).portAvail = s.portAvail := rfl
@[simp] theorem setBit_perTick (s : State) (l : Line) (v : Bool) : (s.setBit l v).perTick = s.perTick := rfl
@[simp] theorem setBit_trace (s : State) (l : Line) (v : Bool) : (s.setBit l v).trace = s.trace ++ [.setBit l v] := rfl
@[simp] theorem setBit_lineLog (s : State) (l : Line) (v : Bool) : (s.setBit l v).lineLog = s.lineLog := rfl
@[simp] theorem setBit_answer (s : State) (l : Line) (v : Bool) : (s.setBit l v).answer = s.answer := rfl
@[simp] theorem setBit_scenario (s : State) (l : Line) (v : Bool) : (s.setBit l v).scenario = s.scenario := rfl
@[simp] theorem setBit_draws (s : State) (l : Line) (v : Bool) : (s.setBit l v).draws = s.draws := rfl

@[simp] theorem commit_cursor (s : State) : (s.commit).cursor = s.cursor := rfl
@[simp] theorem commit_portBuf (s : State) : (s.commit).portBuf = s.portBuf := rfl
@[simp] theorem commit_portOut (s : State) : (s.commit).portOut = s.portBuf := rfl
@[simp] theorem commit_text (s : State) : (s.commit).text = s.text := rfl
@[simp] theorem commit_textAvail (s : State) : (s.commit).textAvail = s.textAvail := rfl
@[simp] theorem commit_portAvail (s : State) : (s.commit).portAvail = s.portAvail := rfl
@[simp] theorem commit_perTick (s : State) : (s.commit).perTick = s.perTick := rfl
@[simp] theorem commit_trace (s : State) : (s.commit).trace = s.trace ++ [.commit] := rfl
@[simp] theorem commit_lineLog (s : State) : (s.commit).lineLog = s.lineLog ++ [s.portBuf] := rfl
@[simp] theorem commit_answer (s : State) : (s.commit).answer = s.answer := rfl
@[simp] theorem commit_scenario (s : State) : (s.commit).scenario = s.scenario := rfl
@[simp] theorem commit_draws (s : State) : (s.commit).draws = s.draws := rfl

@[simp] theorem withCursor_cursor (s : State) (i : Cursor) : (s.withCursor i).cursor = i := rfl
@[simp] theorem withCursor_portBuf (s : State) (i : Cursor) : (s.withCursor i).portBuf = s.portBuf := rfl
@[simp] theorem withCursor_portOut (s : State) (i : Cursor) : (s.withCursor i).portOut = s.portOut := rfl
@[simp] theorem withCursor_text (s : State) (i : Cursor) : (s.withCursor i).text = s.text := rfl
@[simp] theorem withCursor_textAvail (s : State) (i : Cursor) : (s.withCursor i).textAvail = s.textAvail := rfl
@[simp] theorem withCursor_portAvail (s : State) (i : Cursor) : (s.withCursor i).portAvail = s.portAvail := rfl
@[simp] theorem withCursor_perTick (s : State) (i : Cursor) : (s.withCursor i).perTick = s.perTick := rfl
@[simp] theorem withCursor_trace (s : State) (i : Cursor) : (s.withCursor i).trace = s.trace := rfl
@[simp] theorem withCursor_lineLog (s : State) (i : Cursor) : (s.withCursor i).lineLog = s.lineLog := rfl
@[simp] theorem withCursor_answer (s : State) (i : Cursor) : (s.withCursor i).answer = s.answer := rfl
@[simp] theorem withCursor_scenario (s : State) (i : Cursor) : (s.withCursor i).scenario = s.scenario := rfl
@[simp] theorem withCursor_draws (s : State) (i : Cursor) : (s.withCursor i).draws = s.draws := rfl

@[simp] theorem withPerTick_cursor (s : State) (v : TickVals) : (s.withPerTick v).cursor = s.cursor := rfl
@[simp] theorem withPerTick_portBuf (s : State) (v : TickVals) : (s.withPerTick v).portBuf = s.portBuf := rfl
@[simp] theorem withPerTick_portOut (s : State) (v : TickVals) : (s.withPerTick v).portOut = s.portOut := rfl
@[simp] theorem withPerTick_text (s : State) (v : TickVals) : (s.withPerTick v).text = s.text := rfl
@[simp] theorem withPerTick_textAvail (s : State) (v : TickVals) : (s.withPerTick v).textAvail = s.textAvail := rfl
@[simp] theorem withPerTick_portAvail (s : State) (v : TickVals) : (s.withPerTick v).portAvail = s.portAvail := rfl
@[simp] theorem withPerTick_perTick (s : State) (v : TickVals) : (s.withPerTick v).perTick = v := rfl
@[simp] theorem withPerTick_trace (s : State) (v : TickVals) : (s.withPerTick v).trace = s.trace := rfl
@[simp] theorem withPerTick_lineLog (s : State) (v : TickVals) : (s.withPerTick v).lineLog = s.lineLog := rfl
@[simp] theorem withPerTick_answer (s : State) (v : TickVals) : (s.withPerTick v).answer = s.answer := rfl
@[simp] theorem withPerTick_scenario (s : State) (v : TickVals) : (s.withPerTick v).scenario = s.scenario := rfl
@[simp] theorem withPerTick_draws (s : State) (v : TickVals) : (s.withPerTick v).draws = s.draws := rfl

@[simp] theorem resetOp_cursor (s : State) : (s.resetOp).cursor = Config.cursorReset := rfl
@[simp] theorem resetOp_portBuf (s : State) : (s.resetOp).portBuf = s.portBuf := rfl
@[simp] theorem resetOp_portOut (s : State) : (s.resetOp).portOut = s.portOut := rfl
@[simp] theorem resetOp_text (s : State) : (s.resetOp).text = s.text := rfl
@[simp] theorem resetOp_textAvail (s : State) : (s.resetOp).textAvail = s.textAvail := rfl
@[simp] theorem resetOp_portAvail (s : State) : (s.resetOp).portAvail = s.portAvail := rfl
@[simp] theorem resetOp_perTick (s : State) : (s.resetOp).perTick = s.perTick := rfl
@[simp] theorem resetOp_trace (s : State) : (s.resetOp).trace = [] := rfl
@[simp] theorem resetOp_lineLog (s : State) : (s.resetOp).lineLog = [] := rfl
@[simp] theorem resetOp_answer (s : State) : (s.resetOp).answer = none := rfl
@[simp] theorem resetOp_scenario (s : State) : (s.resetOp).scenario = s.scenario := rfl
@[simp] theorem resetOp_draws (s : State) : (s.resetOp).draws = s.draws := rfl

@[simp] theorem withRequest_cursor (s : State) (bytes : List Byte) : (s.withRequest bytes).cursor = s.cursor := rfl
@[simp] theorem withRequest_portBuf (s : State) (bytes : List Byte) : (s.withRequest bytes).portBuf = s.portBuf := rfl
@[simp] theorem withRequest_portOut (s : State) (bytes : List Byte) : (s.withRequest bytes).portOut = s.portOut := rfl
@[simp] theorem withRequest_text (s : State) (bytes : List Byte) : (s.withRequest bytes).text = s.text := rfl
@[simp] theorem withRequest_textAvail (s : State) (bytes : List Byte) : (s.withRequest bytes).textAvail = s.textAvail := rfl
@[simp] theorem withRequest_portAvail (s : State) (bytes : List Byte) : (s.withRequest bytes).portAvail = s.portAvail := rfl
@[simp] theorem withRequest_perTick (s : State) (bytes : List Byte) : (s.withRequest bytes).perTick = s.perTick := rfl
@[simp] theorem withRequest_trace (s : State) (bytes : List Byte) : (s.withRequest bytes).trace = s.trace := rfl
@[simp] theorem withRequest_lineLog (s : State) (bytes : List Byte) : (s.withRequest bytes).lineLog = s.lineLog := rfl
@[simp] theorem withRequest_answer (s : State) (bytes : List Byte) : (s.withRequest bytes).answer = s.answer := rfl
@[simp] theorem withRequest_scenario (s : State) (bytes : List Byte) : (s.withRequest bytes).scenario = .request bytes :: s.scenario := rfl
@[simp] theorem withRequest_draws (s : State) (bytes : List Byte) : (s.withRequest bytes).draws = s.draws := rfl

@[simp] theorem afterRead_cursor (s : State) : s.afterRead.cursor = s.cursor := by
  unfold State.afterRead; split <;> rfl
@[simp] theorem afterRead_portBuf (s : State) : s.afterRead.portBuf = s.portBuf := by
  unfold State.afterRead; split <;> rfl
@[simp] theorem afterRead_portOut (s : State) : s.afterRead.portOut = s.portOut := by
  unfold State.afterRead; split <;> rfl
@[simp] theorem afterRead_text (s : State) : s.afterRead.text = s.text := by
  unfold State.afterRead; split <;> rfl
@[simp] theorem afterRead_textAvail (s : State) : s.afterRead.textAvail = s.textAvail := by
  unfold State.afterRead; split <;> rfl
@[simp] theorem afterRead_portAvail (s : State) : s.afterRead.portAvail = s.portAvail := by
  unfold State.afterRead; split <;> rfl
@[simp] theorem afterRead_perTick (s : State) : s.afterRead.perTick = s.perTick := by
  unfold State.afterRead; split <;> rfl
@[simp] theorem afterRead_trace (s : State) : s.afterRead.trace = s.trace := by
  unfold State.afterRead; split <;> rfl
@[simp] theorem afterRead_lineLog (s : State) : s.afterRead.lineLog = s.lineLog := by
  unfold State.afterRead; split <;> rfl
@[simp] theorem afterRead_answer (s : State) : s.afterRead.answer = s.answer := by
  unfold State.afterRead; split <;> rfl
@[simp] theorem afterRead_scenario (s : State) : s.afterRead.scenario = s.scenario := by
  unfold State.afterRead; split <;> rfl

/-- Reading a bound text writes nothing at all (43_port_and_text_interfaces.md R155). -/
@[simp] theorem afterRead_bound (s : State) (h : s.textAvail = true) : s.afterRead = s := by
  simp [State.afterRead, h]

@[simp] theorem readText_bound (s : State) (h : s.textAvail = true) : s.readText = s.text := by
  simp [State.readText, h]

@[simp] theorem answering_answering (s : State) (a b : Option Answer) :
    (s.answering a).answering b = s.answering b := rfl

end Sys2Proof.Machine
end

