-- ==== Sys2Proof/Laws/Ops.lean ====
section
/-! SUPPORT. What the shared operations do, said once each. -/

namespace Sys2Proof.Machine

/-- A line reads as the value last put there, and every other line as before. -/
theorem getLine_setLine (p : Lines) (l m : Line) (v : Bool) :
    getLine (setLine p l v) m = if l = m then v else getLine p m := by
  cases l <;> cases m <;> rfl

@[simp] theorem getLine_setLine_same (p : Lines) (l : Line) (v : Bool) : getLine (setLine p l v) l = v := by
  simp [getLine_setLine]

theorem getLine_setLine_other (p : Lines) (l m : Line) (v : Bool) (h : l ≠ m) :
    getLine (setLine p l v) m = getLine p m := by
  simp [getLine_setLine, h]

@[simp] theorem getLine_linesOff (l : Line) : getLine linesOff l = false := by
  cases l <;> rfl

/-- Two values of the port that agree on every line are equal. -/
theorem lines_ext (p q : Lines) (h : ∀ l, getLine p l = getLine q l) : p = q := by
  cases p; cases q
  simp only [Lines.mk.injEq]
  exact ⟨h .segA, h .segB, h .segC, h .segD, h .segE, h .segF, h .segG, h .segDP, h .sel0, h .sel1, h .sel2, h .sel3⟩

/-- `setBits` writes the buffer line by line. -/
theorem setBits_portBuf (s : State) (ls : List Line) (v : Line → Bool) :
    (s.setBits ls v).portBuf = ls.foldl (fun p l => setLine p l (v l)) s.portBuf := by
  induction ls generalizing s with
  | nil => rfl
  | cons l ls ih => simpa [State.setBits] using ih (s.setBit l (v l))

/-- `setBits` puts one SETBIT per line on the trace, in order. -/
theorem setBits_trace (s : State) (ls : List Line) (v : Line → Bool) :
    (s.setBits ls v).trace = s.trace ++ ls.map (fun l => Txn.setBit l (v l)) := by
  induction ls generalizing s with
  | nil => simp [State.setBits]
  | cons l ls ih => simpa [State.setBits, List.append_assoc] using ih (s.setBit l (v l))

@[simp] theorem setBits_cursor (s : State) (ls : List Line) (v : Line → Bool) : (s.setBits ls v).cursor = s.cursor := by
  induction ls generalizing s with
  | nil => rfl
  | cons l ls ih => simpa [State.setBits] using ih (s.setBit l (v l))

@[simp] theorem setBits_portOut (s : State) (ls : List Line) (v : Line → Bool) : (s.setBits ls v).portOut = s.portOut := by
  induction ls generalizing s with
  | nil => rfl
  | cons l ls ih => simpa [State.setBits] using ih (s.setBit l (v l))

@[simp] theorem setBits_text (s : State) (ls : List Line) (v : Line → Bool) : (s.setBits ls v).text = s.text := by
  induction ls generalizing s with
  | nil => rfl
  | cons l ls ih => simpa [State.setBits] using ih (s.setBit l (v l))

@[simp] theorem setBits_textAvail (s : State) (ls : List Line) (v : Line → Bool) : (s.setBits ls v).textAvail = s.textAvail := by
  induction ls generalizing s with
  | nil => rfl
  | cons l ls ih => simpa [State.setBits] using ih (s.setBit l (v l))

@[simp] theorem setBits_portAvail (s : State) (ls : List Line) (v : Line → Bool) : (s.setBits ls v).portAvail = s.portAvail := by
  induction ls generalizing s with
  | nil => rfl
  | cons l ls ih => simpa [State.setBits] using ih (s.setBit l (v l))

@[simp] theorem setBits_perTick (s : State) (ls : List Line) (v : Line → Bool) : (s.setBits ls v).perTick = s.perTick := by
  induction ls generalizing s with
  | nil => rfl
  | cons l ls ih => simpa [State.setBits] using ih (s.setBit l (v l))

@[simp] theorem setBits_lineLog (s : State) (ls : List Line) (v : Line → Bool) : (s.setBits ls v).lineLog = s.lineLog := by
  induction ls generalizing s with
  | nil => rfl
  | cons l ls ih => simpa [State.setBits] using ih (s.setBit l (v l))

@[simp] theorem setBits_answer (s : State) (ls : List Line) (v : Line → Bool) : (s.setBits ls v).answer = s.answer := by
  induction ls generalizing s with
  | nil => rfl
  | cons l ls ih => simpa [State.setBits] using ih (s.setBit l (v l))

@[simp] theorem setBits_scenario (s : State) (ls : List Line) (v : Line → Bool) : (s.setBits ls v).scenario = s.scenario := by
  induction ls generalizing s with
  | nil => rfl
  | cons l ls ih => simpa [State.setBits] using ih (s.setBit l (v l))

@[simp] theorem setBits_draws (s : State) (ls : List Line) (v : Line → Bool) : (s.setBits ls v).draws = s.draws := by
  induction ls generalizing s with
  | nil => rfl
  | cons l ls ih => simpa [State.setBits] using ih (s.setBit l (v l))

/-- Setting all twelve lines leaves nothing of what the buffer held (42_multiplex_scheduler.md R123). -/
theorem setBits_all (s : State) (v : Line → Bool) (l : Line) : getLine (s.setBits allLines v).portBuf l = v l := by
  rw [setBits_portBuf]
  cases l <;> rfl

/-- Setting the eight segment lines leaves the select lines alone (42_multiplex_scheduler.md R129). -/
theorem setBits_segments (s : State) (v : Line → Bool) (l : Line) :
    getLine (s.setBits segmentLines v).portBuf l = if l ∈ segmentLines then v l else getLine s.portBuf l := by
  rw [setBits_portBuf]
  cases l <;> rfl

/-- The scenario's next event, if there is one, is its first, and only the scenario changes. -/
theorem takeEvent_cases (s : State) :
    (s.scenario = [] ∧ takeEvent s = none) ∨
      ∃ e rest, s.scenario = e :: rest ∧ takeEvent s = some (e, { s with scenario := rest }) := by
  unfold takeEvent
  cases h : s.scenario with
  | nil => exact .inl ⟨rfl, rfl⟩
  | cons e rest => exact .inr ⟨e, rest, rfl, rfl⟩

/-- `skip(MissingCollaborator)` always goes on, and only the result is new (60_exceptions.md R171). -/
theorem skipMissingCollaborator_spec (s t : State) (h : skipMissingCollaborator s = .next t) :
    t = s.answering (some (.result .skipped)) := by
  simpa [skipMissingCollaborator] using h.symm

/-- One SETBIT always goes on; it writes one bit of the buffer and one entry of the trace. -/
theorem setBitOp_spec (l : Line) (v : Bool) (s t : State) (h : setBitOp l v s = .next t) :
    t = (s.setBit l v).answering none := by
  simpa [setBitOp] using h.symm

/-- Everything a step can be: the tick, a move of the outside world, or a decoded request. -/
theorem step_cases (s t : State) (h : step s = .next t) :
    (s.scenario = [] ∧ exec .tick s = .next t) ∨
      (∃ x rest, s.scenario = .input x :: rest ∧ t = applyInput x { s with scenario := rest }) ∨
        ∃ bytes rest i, s.scenario = .request bytes :: rest ∧ decode bytes = .ok i ∧
          exec i { s with scenario := rest } = .next t := by
  rcases takeEvent_cases s with ⟨hs, he⟩ | ⟨e, rest, hs, he⟩
  · left
    exact ⟨hs, by simpa [step, he] using h⟩
  · right
    cases e with
    | input x =>
      left
      refine ⟨x, rest, hs, ?_⟩
      simpa [step, he] using h.symm
    | request bytes =>
      right
      cases hd : decode bytes with
      | error r => simp [step, he, hd] at h
      | ok i => exact ⟨bytes, rest, i, hs, hd, by simpa [step, he, hd] using h⟩

end Sys2Proof.Machine
end

