-- ==== Sys2Proof/Laws/Operands.lean ====
section
/-! SUPPORT. The operand forms: indices and lines, the port word, the assembly formulas, the ROM. -/

namespace Sys2Proof.Machine

/-- A line is the line of its own index, and indices 12 to 15 have none. -/
theorem lineOfIndex_lineIndex (l : Line) : lineOfIndex (BitVec.ofNat 4 (lineIndex l)) = some l := by
  cases l <;> rfl

theorem lineOfIndex_none (k : BitVec 4) : lineOfIndex k = none ↔ 12 ≤ k.toNat := by
  simp [lineOfIndex, allLines]

/-- The select line of digit i has index 8 + i (42_multiplex_scheduler.md R127). -/
theorem lineIndex_selectLine (i : Cursor) : lineIndex (selectLine i) = 8 + i.toNat := by
  revert i; decide

/-- Bit k of the port word is line k (30_encoding.md R63). -/
theorem linesWord_bit (p : Lines) (l : Line) : (linesWord p).getLsbD (lineIndex l) = getLine p l := by
  obtain ⟨b0, b1, b2, b3, b4, b5, b6, b7, b8, b9, b10, b11⟩ := p
  cases l <;> simp [linesWord, allLines, lineIndex, getLine]

/-- The lines a port word says are its bits. -/
theorem getLine_wordLines (w : PortWord) (l : Line) : getLine (wordLines w) l = w.getLsbD (lineIndex l) := by
  cases l <;> rfl

/-- Lines and port words say the same. -/
@[simp] theorem wordLines_linesWord (p : Lines) : wordLines (linesWord p) = p :=
  lines_ext _ _ fun l => by rw [getLine_wordLines, linesWord_bit]

/-- The bits of seg(eff) (30_encoding.md R69). -/
theorem seg_bit (e : Pattern) (k : Nat) (h : k < 8) : (seg e).getLsbD k = permute e k := by
  have hk : k = 0 ∨ k = 1 ∨ k = 2 ∨ k = 3 ∨ k = 4 ∨ k = 5 ∨ k = 6 ∨ k = 7 := by omega
  rcases hk with rfl | rfl | rfl | rfl | rfl | rfl | rfl | rfl <;> simp [seg, List.range_succ]

/-- The pad cell is blank (41_frame_formatter.md R102, 40_segment_encoder.md R82). -/
theorem encodeChar_space : encodeChar 0x20#8 = 0#8 := rfl

/-- No code outside 32 to 126 reaches the ROM (40_segment_encoder.md R89). -/
theorem encodeChar_outside (c : Code) (h : ¬(32 ≤ c.toNat ∧ c.toNat ≤ 126)) : encodeChar c = 0#8 := by
  simp [encodeChar, h]

end Sys2Proof.Machine
end

