-- ==== Sys2Proof/Laws/PerInstr.lean ====
section
/-! SUPPORT. The round trip of the encoding, instruction by instruction: decoding what the encoder writes gives the instruction
back, with every operand at every value. -/

namespace Sys2Proof.Laws.RoundTrip

/-- What the family says of one instruction. -/
def Statement (i : Instr) : Prop := i.wellFormed = true → decode (encode i) = .ok i

/-- A truth value survives its byte. -/
theorem decodeBool_boolByte (b : Bool) : decodeBool (boolByte b) = .ok b := by
  cases b <;> rfl

/-- A sequence of cells survives its bytes. -/
theorem decodeCells_cellsBytes (cs : List Cell) : decodeCells (cellsBytes cs) = .ok cs := by
  induction cs with
  | nil => rfl
  | cons c cs ih => simp [cellsBytes, cellBytes, decodeCells, decodeBool_boolByte, ih]

/-- A cells operand survives its bytes. -/
theorem withCells_cellsBytes (cs : List Cell) (f : List Cell → Instr) : withCells (cellsBytes cs) f = .ok (f cs) := by
  rw [withCells, decodeCells_cellsBytes]

theorem charLow (c : BitVec 5) : Statement (.charLow c) := by
  revert c; unfold Statement; decide
theorem char20 : Statement .char20 := fun _ => rfl
theorem char21 : Statement .char21 := fun _ => rfl
theorem char22 : Statement .char22 := fun _ => rfl
theorem char23 : Statement .char23 := fun _ => rfl
theorem char24 : Statement .char24 := fun _ => rfl
theorem char25 : Statement .char25 := fun _ => rfl
theorem char26 : Statement .char26 := fun _ => rfl
theorem char27 : Statement .char27 := fun _ => rfl
theorem char28 : Statement .char28 := fun _ => rfl
theorem char29 : Statement .char29 := fun _ => rfl
theorem char2A : Statement .char2A := fun _ => rfl
theorem char2B : Statement .char2B := fun _ => rfl
theorem char2C : Statement .char2C := fun _ => rfl
theorem char2D : Statement .char2D := fun _ => rfl
theorem char2E : Statement .char2E := fun _ => rfl
theorem char2F : Statement .char2F := fun _ => rfl
theorem char30 : Statement .char30 := fun _ => rfl
theorem char31 : Statement .char31 := fun _ => rfl
theorem char32 : Statement .char32 := fun _ => rfl
theorem char33 : Statement .char33 := fun _ => rfl
theorem char34 : Statement .char34 := fun _ => rfl
theorem char35 : Statement .char35 := fun _ => rfl
theorem char36 : Statement .char36 := fun _ => rfl
theorem char37 : Statement .char37 := fun _ => rfl
theorem char38 : Statement .char38 := fun _ => rfl
theorem char39 : Statement .char39 := fun _ => rfl
theorem char3A : Statement .char3A := fun _ => rfl
theorem char3B : Statement .char3B := fun _ => rfl
theorem char3C : Statement .char3C := fun _ => rfl
theorem char3D : Statement .char3D := fun _ => rfl
theorem char3E : Statement .char3E := fun _ => rfl
theorem char3F : Statement .char3F := fun _ => rfl
theorem char40 : Statement .char40 := fun _ => rfl
theorem char41 : Statement .char41 := fun _ => rfl
theorem char42 : Statement .char42 := fun _ => rfl
theorem char43 : Statement .char43 := fun _ => rfl
theorem char44 : Statement .char44 := fun _ => rfl
theorem char45 : Statement .char45 := fun _ => rfl
theorem char46 : Statement .char46 := fun _ => rfl
theorem char47 : Statement .char47 := fun _ => rfl
theorem char48 : Statement .char48 := fun _ => rfl
theorem char49 : Statement .char49 := fun _ => rfl
theorem char4A : Statement .char4A := fun _ => rfl
theorem char4B : Statement .char4B := fun _ => rfl
theorem char4C : Statement .char4C := fun _ => rfl
theorem char4D : Statement .char4D := fun _ => rfl
theorem char4E : Statement .char4E := fun _ => rfl
theorem char4F : Statement .char4F := fun _ => rfl
theorem char50 : Statement .char50 := fun _ => rfl
theorem char51 : Statement .char51 := fun _ => rfl
theorem char52 : Statement .char52 := fun _ => rfl
theorem char53 : Statement .char53 := fun _ => rfl
theorem char54 : Statement .char54 := fun _ => rfl
theorem char55 : Statement .char55 := fun _ => rfl
theorem char56 : Statement .char56 := fun _ => rfl
theorem char57 : Statement .char57 := fun _ => rfl
theorem char58 : Statement .char58 := fun _ => rfl
theorem char59 : Statement .char59 := fun _ => rfl
theorem char5A : Statement .char5A := fun _ => rfl
theorem char5B : Statement .char5B := fun _ => rfl
theorem char5C : Statement .char5C := fun _ => rfl
theorem char5D : Statement .char5D := fun _ => rfl
theorem char5E : Statement .char5E := fun _ => rfl
theorem char5F : Statement .char5F := fun _ => rfl
theorem char60 : Statement .char60 := fun _ => rfl
theorem char61 : Statement .char61 := fun _ => rfl
theorem char62 : Statement .char62 := fun _ => rfl
theorem char63 : Statement .char63 := fun _ => rfl
theorem char64 : Statement .char64 := fun _ => rfl
theorem char65 : Statement .char65 := fun _ => rfl
theorem char66 : Statement .char66 := fun _ => rfl
theorem char67 : Statement .char67 := fun _ => rfl
theorem char68 : Statement .char68 := fun _ => rfl
theorem char69 : Statement .char69 := fun _ => rfl
theorem char6A : Statement .char6A := fun _ => rfl
theorem char6B : Statement .char6B := fun _ => rfl
theorem char6C : Statement .char6C := fun _ => rfl
theorem char6D : Statement .char6D := fun _ => rfl
theorem char6E : Statement .char6E := fun _ => rfl
theorem char6F : Statement .char6F := fun _ => rfl
theorem char70 : Statement .char70 := fun _ => rfl
theorem char71 : Statement .char71 := fun _ => rfl
theorem char72 : Statement .char72 := fun _ => rfl
theorem char73 : Statement .char73 := fun _ => rfl
theorem char74 : Statement .char74 := fun _ => rfl
theorem char75 : Statement .char75 := fun _ => rfl
theorem char76 : Statement .char76 := fun _ => rfl
theorem char77 : Statement .char77 := fun _ => rfl
theorem char78 : Statement .char78 := fun _ => rfl
theorem char79 : Statement .char79 := fun _ => rfl
theorem char7A : Statement .char7A := fun _ => rfl
theorem char7B : Statement .char7B := fun _ => rfl
theorem char7C : Statement .char7C := fun _ => rfl
theorem char7D : Statement .char7D := fun _ => rfl
theorem char7E : Statement .char7E := fun _ => rfl
theorem char7F : Statement .char7F := fun _ => rfl
theorem charHigh (c : BitVec 7) : Statement (.charHigh c) := by
  revert c; unfold Statement; decide
theorem portA (v : Bool) : Statement (.portA v) := by
  cases v <;> exact fun _ => rfl
theorem portB (v : Bool) : Statement (.portB v) := by
  cases v <;> exact fun _ => rfl
theorem portC (v : Bool) : Statement (.portC v) := by
  cases v <;> exact fun _ => rfl
theorem portD (v : Bool) : Statement (.portD v) := by
  cases v <;> exact fun _ => rfl
theorem portE (v : Bool) : Statement (.portE v) := by
  cases v <;> exact fun _ => rfl
theorem portF (v : Bool) : Statement (.portF v) := by
  cases v <;> exact fun _ => rfl
theorem portG (v : Bool) : Statement (.portG v) := by
  cases v <;> exact fun _ => rfl
theorem portDP (v : Bool) : Statement (.portDP v) := by
  cases v <;> exact fun _ => rfl
theorem portSel0 (v : Bool) : Statement (.portSel0 v) := by
  cases v <;> exact fun _ => rfl
theorem portSel1 (v : Bool) : Statement (.portSel1 v) := by
  cases v <;> exact fun _ => rfl
theorem portSel2 (v : Bool) : Statement (.portSel2 v) := by
  cases v <;> exact fun _ => rfl
theorem portSel3 (v : Bool) : Statement (.portSel3 v) := by
  cases v <;> exact fun _ => rfl
theorem portUnused (k : BitVec 2) (v : Bool) : Statement (.portUnused k v) := by
  revert k v; unfold Statement; decide
theorem tick1Guard : Statement .tick1Guard := fun _ => rfl
theorem tick2Clear : Statement .tick2Clear := fun _ => rfl
theorem tick3Frame : Statement .tick3Frame := fun _ => rfl
theorem tick4Cell : Statement .tick4Cell := fun _ => rfl
theorem tick5Select : Statement .tick5Select := fun _ => rfl
theorem tick6Segments : Statement .tick6Segments := fun _ => rfl
theorem tick7Commit : Statement .tick7Commit := fun _ => rfl
theorem tick8Advance : Statement .tick8Advance := fun _ => rfl
theorem encode (c : Code) : Statement (.encode c) := fun _ => rfl
theorem fold (t : List Code) : Statement (.fold t) := fun _ => rfl
theorem pad (cs : List Cell) : Statement (.pad cs) := fun _ => withCells_cellsBytes cs .pad
theorem keep4 (cs : List Cell) : Statement (.keep4 cs) := fun _ => withCells_cellsBytes cs .keep4
theorem format (t : List Code) : Statement (.format t) := fun _ => rfl
theorem cellword (cell : Cell) : Statement (.cellword cell) := by
  intro _
  obtain ⟨p, d⟩ := cell
  cases d <;> rfl
theorem permute (eff : Pattern) : Statement (.permute eff) := fun _ => rfl
theorem tick : Statement .tick := fun _ => rfl
theorem setbit (k : BitVec 4) (v : Bool) : Statement (.setbit k v) := by
  revert k v; unfold Statement; decide
theorem commit : Statement .commit := fun _ => rfl
theorem textread : Statement .textread := fun _ => rfl
theorem bindText : Statement .bindText := fun _ => rfl
theorem bindPort : Statement .bindPort := fun _ => rfl
theorem reset : Statement .reset := fun _ => rfl

end Sys2Proof.Laws.RoundTrip
end

