-- ==== Sys2Proof/Tests/Slice0.lean ====
section
/-! SUPPORT. The model's own tests: the WellFormed smoke test, decoding of words written from the spec's tables, single operations
and single steps with results taken from 95_test_vectors.md, and for every statement with hypotheses a concrete case that
meets them. -/

namespace Sys2Proof.Tests

open Sys2Proof.Machine

/-- Both collaborators bound, every line of the port the bit of `port`, the given text and cursor. -/
def bound (text : List Code) (cursor : Cursor) (port : PortWord) : State :=
  { State.reset with
    text := text, cursor := cursor, textAvail := true, portAvail := true, portBuf := wordLines port, portOut := wordLines port }

/-- The outcome is a next state that passes the check. -/
def nextHas (r : Result) (p : State → Bool) : Bool :=
  match r with
  | .next t => p t
  | _ => false

/-- The text "22.5" (T11). -/
def text225 : List Code := [0x32#8, 0x32#8, 0x2E#8, 0x35#8]

/-! ### Well-formedness: 43_port_and_text_interfaces.md R151, k in 0..11 -/

/-- Each ill-formed SETBIT index is refused. -/
theorem test_wellFormed_refuses_setbit_12_to_15 :
    [Instr.setbit 12#4 true, .setbit 13#4 false, .setbit 14#4 true, .setbit 15#4 false].all (fun i => !i.wellFormed) = true := by
  decide

theorem test_wellFormed_takes_setbit_0_to_11 :
    (List.range 12).all (fun k => (Instr.setbit (BitVec.ofNat 4 k) true).wellFormed) = true := by decide

/-! ### Decoding: words from spec/opcode_table.json, written out by hand in the layout of log 2 -/

theorem test_decode_char_ranges :
    decode [0x00#8, 0b00000000#8] = .ok (.charLow 0#5) ∧ decode [0x00#8, 0b00011111#8] = .ok (.charLow 31#5) ∧
    decode [0x00#8, 0b10000000#8] = .ok (.charHigh 0#7) ∧ decode [0x00#8, 0b11000010#8] = .ok (.charHigh 0x42#7) ∧
    decode [0x00#8, 0b11111111#8] = .ok (.charHigh 127#7) :=
  ⟨rfl, rfl, rfl, rfl, rfl⟩

theorem test_decode_char_20 :
    decode [0x00#8, 0b00100000#8] = .ok .char20 ∧
    decode [0x00#8, 0b00100001#8] = .ok .char21 ∧
    decode [0x00#8, 0b00100010#8] = .ok .char22 ∧
    decode [0x00#8, 0b00100011#8] = .ok .char23 ∧
    decode [0x00#8, 0b00100100#8] = .ok .char24 ∧
    decode [0x00#8, 0b00100101#8] = .ok .char25 ∧
    decode [0x00#8, 0b00100110#8] = .ok .char26 ∧
    decode [0x00#8, 0b00100111#8] = .ok .char27 ∧
    decode [0x00#8, 0b00101000#8] = .ok .char28 ∧
    decode [0x00#8, 0b00101001#8] = .ok .char29 ∧
    decode [0x00#8, 0b00101010#8] = .ok .char2A ∧
    decode [0x00#8, 0b00101011#8] = .ok .char2B ∧
    decode [0x00#8, 0b00101100#8] = .ok .char2C ∧
    decode [0x00#8, 0b00101101#8] = .ok .char2D ∧
    decode [0x00#8, 0b00101110#8] = .ok .char2E ∧
    decode [0x00#8, 0b00101111#8] = .ok .char2F :=
  ⟨rfl, rfl, rfl, rfl, rfl, rfl, rfl, rfl, rfl, rfl, rfl, rfl, rfl, rfl, rfl, rfl⟩

theorem test_decode_char_30 :
    decode [0x00#8, 0b00110000#8] = .ok .char30 ∧
    decode [0x00#8, 0b00110001#8] = .ok .char31 ∧
    decode [0x00#8, 0b00110010#8] = .ok .char32 ∧
    decode [0x00#8, 0b00110011#8] = .ok .char33 ∧
    decode [0x00#8, 0b00110100#8] = .ok .char34 ∧
    decode [0x00#8, 0b00110101#8] = .ok .char35 ∧
    decode [0x00#8, 0b00110110#8] = .ok .char36 ∧
    decode [0x00#8, 0b00110111#8] = .ok .char37 ∧
    decode [0x00#8, 0b00111000#8] = .ok .char38 ∧
    decode [0x00#8, 0b00111001#8] = .ok .char39 ∧
    decode [0x00#8, 0b00111010#8] = .ok .char3A ∧
    decode [0x00#8, 0b00111011#8] = .ok .char3B ∧
    decode [0x00#8, 0b00111100#8] = .ok .char3C ∧
    decode [0x00#8, 0b00111101#8] = .ok .char3D ∧
    decode [0x00#8, 0b00111110#8] = .ok .char3E ∧
    decode [0x00#8, 0b00111111#8] = .ok .char3F :=
  ⟨rfl, rfl, rfl, rfl, rfl, rfl, rfl, rfl, rfl, rfl, rfl, rfl, rfl, rfl, rfl, rfl⟩

theorem test_decode_char_40 :
    decode [0x00#8, 0b01000000#8] = .ok .char40 ∧
    decode [0x00#8, 0b01000001#8] = .ok .char41 ∧
    decode [0x00#8, 0b01000010#8] = .ok .char42 ∧
    decode [0x00#8, 0b01000011#8] = .ok .char43 ∧
    decode [0x00#8, 0b01000100#8] = .ok .char44 ∧
    decode [0x00#8, 0b01000101#8] = .ok .char45 ∧
    decode [0x00#8, 0b01000110#8] = .ok .char46 ∧
    decode [0x00#8, 0b01000111#8] = .ok .char47 ∧
    decode [0x00#8, 0b01001000#8] = .ok .char48 ∧
    decode [0x00#8, 0b01001001#8] = .ok .char49 ∧
    decode [0x00#8, 0b01001010#8] = .ok .char4A ∧
    decode [0x00#8, 0b01001011#8] = .ok .char4B ∧
    decode [0x00#8, 0b01001100#8] = .ok .char4C ∧
    decode [0x00#8, 0b01001101#8] = .ok .char4D ∧
    decode [0x00#8, 0b01001110#8] = .ok .char4E ∧
    decode [0x00#8, 0b01001111#8] = .ok .char4F :=
  ⟨rfl, rfl, rfl, rfl, rfl, rfl, rfl, rfl, rfl, rfl, rfl, rfl, rfl, rfl, rfl, rfl⟩

theorem test_decode_char_50 :
    decode [0x00#8, 0b01010000#8] = .ok .char50 ∧
    decode [0x00#8, 0b01010001#8] = .ok .char51 ∧
    decode [0x00#8, 0b01010010#8] = .ok .char52 ∧
    decode [0x00#8, 0b01010011#8] = .ok .char53 ∧
    decode [0x00#8, 0b01010100#8] = .ok .char54 ∧
    decode [0x00#8, 0b01010101#8] = .ok .char55 ∧
    decode [0x00#8, 0b01010110#8] = .ok .char56 ∧
    decode [0x00#8, 0b01010111#8] = .ok .char57 ∧
    decode [0x00#8, 0b01011000#8] = .ok .char58 ∧
    decode [0x00#8, 0b01011001#8] = .ok .char59 ∧
    decode [0x00#8, 0b01011010#8] = .ok .char5A ∧
    decode [0x00#8, 0b01011011#8] = .ok .char5B ∧
    decode [0x00#8, 0b01011100#8] = .ok .char5C ∧
    decode [0x00#8, 0b01011101#8] = .ok .char5D ∧
    decode [0x00#8, 0b01011110#8] = .ok .char5E ∧
    decode [0x00#8, 0b01011111#8] = .ok .char5F :=
  ⟨rfl, rfl, rfl, rfl, rfl, rfl, rfl, rfl, rfl, rfl, rfl, rfl, rfl, rfl, rfl, rfl⟩

theorem test_decode_char_60 :
    decode [0x00#8, 0b01100000#8] = .ok .char60 ∧
    decode [0x00#8, 0b01100001#8] = .ok .char61 ∧
    decode [0x00#8, 0b01100010#8] = .ok .char62 ∧
    decode [0x00#8, 0b01100011#8] = .ok .char63 ∧
    decode [0x00#8, 0b01100100#8] = .ok .char64 ∧
    decode [0x00#8, 0b01100101#8] = .ok .char65 ∧
    decode [0x00#8, 0b01100110#8] = .ok .char66 ∧
    decode [0x00#8, 0b01100111#8] = .ok .char67 ∧
    decode [0x00#8, 0b01101000#8] = .ok .char68 ∧
    decode [0x00#8, 0b01101001#8] = .ok .char69 ∧
    decode [0x00#8, 0b01101010#8] = .ok .char6A ∧
    decode [0x00#8, 0b01101011#8] = .ok .char6B ∧
    decode [0x00#8, 0b01101100#8] = .ok .char6C ∧
    decode [0x00#8, 0b01101101#8] = .ok .char6D ∧
    decode [0x00#8, 0b01101110#8] = .ok .char6E ∧
    decode [0x00#8, 0b01101111#8] = .ok .char6F :=
  ⟨rfl, rfl, rfl, rfl, rfl, rfl, rfl, rfl, rfl, rfl, rfl, rfl, rfl, rfl, rfl, rfl⟩

theorem test_decode_char_70 :
    decode [0x00#8, 0b01110000#8] = .ok .char70 ∧
    decode [0x00#8, 0b01110001#8] = .ok .char71 ∧
    decode [0x00#8, 0b01110010#8] = .ok .char72 ∧
    decode [0x00#8, 0b01110011#8] = .ok .char73 ∧
    decode [0x00#8, 0b01110100#8] = .ok .char74 ∧
    decode [0x00#8, 0b01110101#8] = .ok .char75 ∧
    decode [0x00#8, 0b01110110#8] = .ok .char76 ∧
    decode [0x00#8, 0b01110111#8] = .ok .char77 ∧
    decode [0x00#8, 0b01111000#8] = .ok .char78 ∧
    decode [0x00#8, 0b01111001#8] = .ok .char79 ∧
    decode [0x00#8, 0b01111010#8] = .ok .char7A ∧
    decode [0x00#8, 0b01111011#8] = .ok .char7B ∧
    decode [0x00#8, 0b01111100#8] = .ok .char7C ∧
    decode [0x00#8, 0b01111101#8] = .ok .char7D ∧
    decode [0x00#8, 0b01111110#8] = .ok .char7E ∧
    decode [0x00#8, 0b01111111#8] = .ok .char7F :=
  ⟨rfl, rfl, rfl, rfl, rfl, rfl, rfl, rfl, rfl, rfl, rfl, rfl, rfl, rfl, rfl, rfl⟩

theorem test_decode_ports :
    decode [0x01#8, 0b00000000#8, 0#8] = .ok (.portA false) ∧
    decode [0x01#8, 0b00000001#8, 1#8] = .ok (.portB true) ∧
    decode [0x01#8, 0b00000010#8, 0#8] = .ok (.portC false) ∧
    decode [0x01#8, 0b00000011#8, 1#8] = .ok (.portD true) ∧
    decode [0x01#8, 0b00000100#8, 0#8] = .ok (.portE false) ∧
    decode [0x01#8, 0b00000101#8, 1#8] = .ok (.portF true) ∧
    decode [0x01#8, 0b00000110#8, 0#8] = .ok (.portG false) ∧
    decode [0x01#8, 0b00000111#8, 1#8] = .ok (.portDP true) ∧
    decode [0x01#8, 0b00001000#8, 0#8] = .ok (.portSel0 false) ∧
    decode [0x01#8, 0b00001001#8, 1#8] = .ok (.portSel1 true) ∧
    decode [0x01#8, 0b00001010#8, 0#8] = .ok (.portSel2 false) ∧
    decode [0x01#8, 0b00001011#8, 1#8] = .ok (.portSel3 true) ∧
    decode [0x01#8, 0b00001100#8, 1#8] = .ok (.portUnused 0#2 true) ∧
    decode [0x01#8, 0b00001111#8, 0#8] = .ok (.portUnused 3#2 false) :=
  ⟨rfl, rfl, rfl, rfl, rfl, rfl, rfl, rfl, rfl, rfl, rfl, rfl, rfl, rfl⟩

theorem test_decode_ticksteps :
    decode [0x02#8, 0b00000001#8] = .ok .tick1Guard ∧
    decode [0x02#8, 0b00000010#8] = .ok .tick2Clear ∧
    decode [0x02#8, 0b00000011#8] = .ok .tick3Frame ∧
    decode [0x02#8, 0b00000100#8] = .ok .tick4Cell ∧
    decode [0x02#8, 0b00000101#8] = .ok .tick5Select ∧
    decode [0x02#8, 0b00000110#8] = .ok .tick6Segments ∧
    decode [0x02#8, 0b00000111#8] = .ok .tick7Commit ∧
    decode [0x02#8, 0b00001000#8] = .ok .tick8Advance :=
  ⟨rfl, rfl, rfl, rfl, rfl, rfl, rfl, rfl⟩

theorem test_decode_operations :
    decode [0x03#8, 0#8, 0x41#8] = .ok (.encode 0x41#8) ∧
    decode [0x03#8, 1#8, 0x31#8, 0x2E#8] = .ok (.fold [0x31#8, 0x2E#8]) ∧
    decode [0x03#8, 2#8, 0x30#8, 1#8] = .ok (.pad [⟨0x30#8, true⟩]) ∧
    decode [0x03#8, 3#8, 0x30#8, 0#8, 0x6D#8, 1#8] = .ok (.keep4 [⟨0x30#8, false⟩, ⟨0x6D#8, true⟩]) ∧
    decode [0x03#8, 4#8] = .ok (.format []) ∧
    decode [0x03#8, 5#8, 0x6D#8, 1#8] = .ok (.cellword ⟨0x6D#8, true⟩) ∧
    decode [0x03#8, 6#8, 0x7E#8] = .ok (.permute 0x7E#8) ∧
    decode [0x03#8, 7#8] = .ok .tick ∧
    decode [0x03#8, 8#8, 11#8, 1#8] = .ok (.setbit 11#4 true) ∧
    decode [0x03#8, 9#8] = .ok .commit ∧
    decode [0x03#8, 10#8] = .ok .textread ∧
    decode [0x03#8, 11#8] = .ok .bindText ∧
    decode [0x03#8, 12#8] = .ok .bindPort ∧
    decode [0x03#8, 13#8] = .ok .reset :=
  ⟨rfl, rfl, rfl, rfl, rfl, rfl, rfl, rfl, rfl, rfl, rfl, rfl, rfl, rfl⟩

theorem test_decode_rejects_by_name :
    decode [] = .error .noFormat ∧
    decode [0x02#8] = .error .noWord ∧
    decode [0x04#8, 0#8] = .error (.unknownFormat 0x04#8) ∧
    decode [0x02#8, 0#8] = .error (.unknownStep 0#8) ∧
    decode [0x02#8, 9#8] = .error (.unknownStep 9#8) ∧
    decode [0x03#8, 14#8] = .error (.unknownOperation 14#8) ∧
    decode [0x01#8, 16#8, 0#8] = .error (.portIndexTooWide 16#8) ∧
    decode [0x03#8, 8#8, 12#8, 0#8] = .error (.setbitIndexReserved 12#8) ∧
    decode [0x01#8, 0#8, 2#8] = .error (.notBoolean 2#8) ∧
    decode [0x00#8, 0x41#8, 0#8] = .error .operandCount ∧
    decode [0x03#8, 2#8, 0x30#8] = .error .operandCount :=
  ⟨rfl, rfl, rfl, rfl, rfl, rfl, rfl, rfl, rfl, rfl, rfl⟩

/-- The words the table's own numbering tells apart (log 3). -/
theorem test_decodeTableWord :
    decodeTableWord 8 0x51 = some .char51 ∧
    decodeTableWord 16 0x6 = some .tick6Segments ∧
    decodeTableWord 16 0x8 = some (.portSel0 false) ∧
    decodeTableWord 16 0xB = some (.portSel3 false) ∧
    decodeTableWord 16 0xC = some (.portUnused 0#2 false) :=
  ⟨rfl, rfl, rfl, rfl, rfl⟩

/-! ### ENCODE, T2 of 95_test_vectors.md (the rows that hold for every SYMROM) -/

theorem test_encode_vectors :
    [(0x00#8, 0x00#8), (0x1F#8, 0x00#8), (0x20#8, 0x00#8), (0x2D#8, 0x01#8), (0x2E#8, 0x80#8), (0x30#8, 0x7E#8), (0x38#8,
     0x7F#8), (0x40#8, 0x6F#8), (0x41#8, 0x77#8), (0x42#8, 0x1F#8), (0x49#8, 0x30#8), (0x4B#8, 0x00#8), (0x51#8, 0xFE#8),
     (0x54#8, 0x07#8), (0x56#8, 0x3E#8), (0x57#8, 0x3F#8), (0x58#8, 0x00#8), (0x59#8, 0x27#8), (0x5A#8, 0x6D#8), (0x61#8,
     0x77#8), (0x63#8, 0x0D#8), (0x65#8, 0x4F#8), (0x68#8, 0x17#8), (0x69#8, 0x10#8), (0x6F#8, 0x1D#8), (0x71#8, 0x00#8),
     (0x74#8, 0x07#8), (0x75#8, 0x1C#8), (0x76#8, 0x1C#8), (0x77#8, 0x00#8), (0x7A#8, 0x00#8), (0x23#8, 0x00#8), (0x7F#8,
     0x00#8), (0x80#8, 0x00#8), (0xC2#8, 0x00#8), (0xFF#8, 0x00#8)].all
      (fun x : Code × Pattern => encodeChar x.1 == x.2) = true := by decide

/-- T3 (d): among the letters only Q has bit 7 set; here row CHAR_51 itself, as step 13 of T15. -/
theorem test_char51_answers_FE :
    nextHas (exec .char51 (bound [] 1#2 0xF0F#12)) (fun t => t.answer == some (.pattern 0xFE#8) && t.cursor == 1#2) = true := by decide

/-- T3 (e) over the entries that SYMROM does not give: every one of them adds 0x00 under the default, so the sum is the same. -/
theorem test_rom_sum_without_symrom :
    (((List.range 95).filter (fun a => decide (a ∉ [1, 2, 5, 7, 8, 9, 10, 11, 12, 15, 26, 27, 29, 31, 59, 60, 61, 62, 63, 64, 91, 92, 93, 94]))).map
      (fun a => (encodeChar (BitVec.ofNat 8 (a + 32))).toNat)).sum = 3827 := by decide

/-- A SYMROM code gives the open entry, whatever it is (R88). -/
theorem test_char7E_is_open : exec .char7E (bound [] 0#2 0#12) = .next { bound [] 0#2 0#12 with answer := some (.pattern (Config.symrom 0x7E#8)) } :=
  rfl

/-! ### FOLD and FORMAT, T4 of 95_test_vectors.md -/

theorem test_fold_format_vectors_a :
    [([], [], [⟨0x00#8, false⟩, ⟨0x00#8, false⟩, ⟨0x00#8, false⟩, ⟨0x00#8, false⟩]),
     ([0x2E#8], [], [⟨0x00#8, false⟩, ⟨0x00#8, false⟩, ⟨0x00#8, false⟩, ⟨0x00#8, false⟩]),
     ([0x2E#8, 0x35#8], [⟨0x5B#8, false⟩], [⟨0x00#8, false⟩, ⟨0x00#8, false⟩, ⟨0x00#8, false⟩, ⟨0x5B#8, false⟩]),
     ([0x31#8, 0x32#8, 0x33#8, 0x34#8, 0x2E#8], [⟨0x30#8, false⟩, ⟨0x6D#8, false⟩, ⟨0x79#8, false⟩, ⟨0x33#8, true⟩], [⟨0x30#8, false⟩, ⟨0x6D#8, false⟩, ⟨0x79#8, false⟩, ⟨0x33#8, true⟩]),
     ([0x31#8, 0x32#8, 0x33#8, 0x34#8, 0x35#8, 0x2E#8], [⟨0x30#8, false⟩, ⟨0x6D#8, false⟩, ⟨0x79#8, false⟩, ⟨0x33#8, false⟩, ⟨0x5B#8, true⟩], [⟨0x30#8, false⟩, ⟨0x6D#8, false⟩, ⟨0x79#8, false⟩, ⟨0x33#8, false⟩]),
     ([0x31#8, 0x2E#8, 0x32#8, 0x33#8], [⟨0x30#8, true⟩, ⟨0x6D#8, false⟩, ⟨0x79#8, false⟩], [⟨0x00#8, false⟩, ⟨0x30#8, true⟩, ⟨0x6D#8, false⟩, ⟨0x79#8, false⟩]),
     ([0x32#8, 0x32#8, 0x2E#8, 0x35#8], [⟨0x6D#8, false⟩, ⟨0x6D#8, true⟩, ⟨0x5B#8, false⟩], [⟨0x00#8, false⟩, ⟨0x6D#8, false⟩, ⟨0x6D#8, true⟩, ⟨0x5B#8, false⟩]),
     ([0x31#8, 0x2E#8, 0x2E#8, 0x32#8], [⟨0x30#8, true⟩, ⟨0x6D#8, false⟩], [⟨0x00#8, false⟩, ⟨0x00#8, false⟩, ⟨0x30#8, true⟩, ⟨0x6D#8, false⟩])].all
      (fun x : List Code × List Cell × List Cell => fold x.1 == x.2.1 && (format x.1).cells == x.2.2) = true := by decide

theorem test_fold_format_vectors_b :
    [([0x20#8, 0x20#8, 0x2E#8, 0x35#8], [⟨0x00#8, false⟩, ⟨0x00#8, true⟩, ⟨0x5B#8, false⟩], [⟨0x00#8, false⟩, ⟨0x00#8, false⟩, ⟨0x00#8, true⟩, ⟨0x5B#8, false⟩]),
     ([0x20#8, 0x20#8, 0x20#8, 0x2E#8], [⟨0x00#8, false⟩, ⟨0x00#8, false⟩, ⟨0x00#8, true⟩], [⟨0x00#8, false⟩, ⟨0x00#8, false⟩, ⟨0x00#8, false⟩, ⟨0x00#8, true⟩]),
     ([0x31#8, 0x2E#8, 0x32#8, 0x2E#8, 0x33#8, 0x2E#8, 0x34#8, 0x2E#8], [⟨0x30#8, true⟩, ⟨0x6D#8, true⟩, ⟨0x79#8, true⟩, ⟨0x33#8, true⟩], [⟨0x30#8, true⟩, ⟨0x6D#8, true⟩, ⟨0x79#8, true⟩, ⟨0x33#8, true⟩]),
     ([0x31#8, 0x2E#8, 0x32#8, 0x33#8, 0x34#8], [⟨0x30#8, true⟩, ⟨0x6D#8, false⟩, ⟨0x79#8, false⟩, ⟨0x33#8, false⟩], [⟨0x30#8, true⟩, ⟨0x6D#8, false⟩, ⟨0x79#8, false⟩, ⟨0x33#8, false⟩]),
     ([0x51#8, 0x2E#8], [⟨0xFE#8, true⟩], [⟨0x00#8, false⟩, ⟨0x00#8, false⟩, ⟨0x00#8, false⟩, ⟨0xFE#8, true⟩]),
     ([0x48#8, 0x45#8, 0x4C#8, 0x4C#8, 0x4F#8], [⟨0x37#8, false⟩, ⟨0x4F#8, false⟩, ⟨0x0E#8, false⟩, ⟨0x0E#8, false⟩, ⟨0x7E#8, false⟩], [⟨0x37#8, false⟩, ⟨0x4F#8, false⟩, ⟨0x0E#8, false⟩, ⟨0x0E#8, false⟩]),
     ([0x01#8, 0x7F#8, 0x80#8, 0xFF#8], [⟨0x00#8, false⟩, ⟨0x00#8, false⟩, ⟨0x00#8, false⟩, ⟨0x00#8, false⟩], [⟨0x00#8, false⟩, ⟨0x00#8, false⟩, ⟨0x00#8, false⟩, ⟨0x00#8, false⟩]),
     ([0xC2#8, 0xB0#8, 0x43#8], [⟨0x00#8, false⟩, ⟨0x00#8, false⟩, ⟨0x4E#8, false⟩], [⟨0x00#8, false⟩, ⟨0x00#8, false⟩, ⟨0x00#8, false⟩, ⟨0x4E#8, false⟩])].all
      (fun x : List Code × List Cell × List Cell => fold x.1 == x.2.1 && (format x.1).cells == x.2.2) = true := by decide

/-- T5: the rejected reading of the padding gives other frames for "." and ".5". -/
theorem test_prose_reading_vectors :
    (proseFormat [0x2E#8]).cells = [⟨0#8, false⟩, ⟨0#8, false⟩, ⟨0#8, false⟩, ⟨0#8, true⟩] ∧
      (proseFormat [0x2E#8, 0x35#8]).cells = [⟨0#8, false⟩, ⟨0#8, false⟩, ⟨0#8, true⟩, ⟨0x5B#8, false⟩] := by decide

/-- V-S3 as requests: PAD of the folded "22.5", and KEEP4 of "1234." and a fifth cell (V-F12). -/
theorem test_pad_and_keep4 :
    nextHas (exec (.pad [⟨0x6D#8, false⟩, ⟨0x6D#8, true⟩, ⟨0x5B#8, false⟩]) State.reset)
        (fun t => t.answer == some (.cells [⟨0#8, false⟩, ⟨0x6D#8, false⟩, ⟨0x6D#8, true⟩, ⟨0x5B#8, false⟩])) = true ∧
      nextHas (exec (.keep4 [⟨0x30#8, false⟩, ⟨0x6D#8, false⟩, ⟨0x79#8, false⟩, ⟨0x33#8, true⟩, ⟨0x5B#8, false⟩]) State.reset)
        (fun t => t.answer == some (.frame ⟨⟨0x30#8, false⟩, ⟨0x6D#8, false⟩, ⟨0x79#8, false⟩, ⟨0x33#8, true⟩⟩)) = true := by
  decide

/-! ### CELLWORD, PERMUTE and port words, T6 of 95_test_vectors.md -/

theorem test_cell_vectors :
    [(⟨0x00#8, false⟩, 0x00#8, 0x00#8, [0x100#12, 0x200#12, 0x400#12, 0x800#12]),
     (⟨0x00#8, true⟩, 0x80#8, 0x80#8, [0x180#12, 0x280#12, 0x480#12, 0x880#12]),
     (⟨0x7E#8, false⟩, 0x7E#8, 0x3F#8, [0x13F#12, 0x23F#12, 0x43F#12, 0x83F#12]),
     (⟨0x30#8, false⟩, 0x30#8, 0x06#8, [0x106#12, 0x206#12, 0x406#12, 0x806#12]),
     (⟨0x6D#8, false⟩, 0x6D#8, 0x5B#8, [0x15B#12, 0x25B#12, 0x45B#12, 0x85B#12]),
     (⟨0x6D#8, true⟩, 0xED#8, 0xDB#8, [0x1DB#12, 0x2DB#12, 0x4DB#12, 0x8DB#12]),
     (⟨0x79#8, false⟩, 0x79#8, 0x4F#8, [0x14F#12, 0x24F#12, 0x44F#12, 0x84F#12]),
     (⟨0x33#8, false⟩, 0x33#8, 0x66#8, [0x166#12, 0x266#12, 0x466#12, 0x866#12]),
     (⟨0x5B#8, false⟩, 0x5B#8, 0x6D#8, [0x16D#12, 0x26D#12, 0x46D#12, 0x86D#12]),
     (⟨0x5F#8, false⟩, 0x5F#8, 0x7D#8, [0x17D#12, 0x27D#12, 0x47D#12, 0x87D#12]),
     (⟨0x70#8, false⟩, 0x70#8, 0x07#8, [0x107#12, 0x207#12, 0x407#12, 0x807#12]),
     (⟨0x7F#8, false⟩, 0x7F#8, 0x7F#8, [0x17F#12, 0x27F#12, 0x47F#12, 0x87F#12]),
     (⟨0x7B#8, false⟩, 0x7B#8, 0x6F#8, [0x16F#12, 0x26F#12, 0x46F#12, 0x86F#12]),
     (⟨0x7F#8, true⟩, 0xFF#8, 0xFF#8, [0x1FF#12, 0x2FF#12, 0x4FF#12, 0x8FF#12]),
     (⟨0x01#8, false⟩, 0x01#8, 0x40#8, [0x140#12, 0x240#12, 0x440#12, 0x840#12]),
     (⟨0x40#8, false⟩, 0x40#8, 0x01#8, [0x101#12, 0x201#12, 0x401#12, 0x801#12]),
     (⟨0xFE#8, false⟩, 0xFE#8, 0xBF#8, [0x1BF#12, 0x2BF#12, 0x4BF#12, 0x8BF#12]),
     (⟨0xFE#8, true⟩, 0xFE#8, 0xBF#8, [0x1BF#12, 0x2BF#12, 0x4BF#12, 0x8BF#12]),
     (⟨0x80#8, false⟩, 0x80#8, 0x80#8, [0x180#12, 0x280#12, 0x480#12, 0x880#12]),
     (⟨0x4E#8, false⟩, 0x4E#8, 0x39#8, [0x139#12, 0x239#12, 0x439#12, 0x839#12])].all
      (fun x : Cell × Pattern × BitVec 8 × List PortWord =>
        cellWord x.1 == x.2.1 && seg x.2.1 == x.2.2.1 && [0#2, 1#2, 2#2, 3#2].map (portWord x.2.1) == x.2.2.2) = true := by
  decide

/-- V-C6 and V-C3 as operations. -/
theorem test_cellword_and_permute :
    nextHas (exec (.cellword ⟨0x6D#8, true⟩) State.reset) (fun t => t.answer == some (.eff 0xED#8)) = true ∧
      nextHas (exec (.permute 0x7E#8) State.reset) (fun t => t.answer == some (.seg 0x3F#8)) = true := by decide

/-! ### SETBIT and COMMIT, T7 of 95_test_vectors.md -/

/-- V-P1 and V-P4: SETBIT moves the buffer and not the lines. -/
theorem test_setbit :
    nextHas (exec (.setbit 9#4 true) (bound [] 0#2 0x000#12))
        (fun t => linesWord t.portBuf == 0x200#12 && linesWord t.portOut == 0x000#12 && t.trace == [.setBit .sel1 true]) = true ∧
      nextHas (exec (.portSel1 false) (bound [] 0#2 0x201#12))
        (fun t => linesWord t.portBuf == 0x001#12 && linesWord t.portOut == 0x201#12) = true := by decide

/-- V-P8: the highest index. -/
theorem test_setbit_highest_index :
    nextHas (exec (.portSel3 false) { bound [] 0#2 0xFFF#12 with portOut := wordLines 0xA5A#12 })
      (fun t => linesWord t.portBuf == 0x7FF#12 && linesWord t.portOut == 0xA5A#12) = true := by decide

/-- V-P3: COMMIT moves all bits and keeps the buffer. -/
theorem test_commit :
    nextHas (exec .commit { bound [] 0#2 0x201#12 with portOut := linesOff })
      (fun t => linesWord t.portBuf == 0x201#12 && linesWord t.portOut == 0x201#12 && t.trace == [.commit]) = true := by decide

/-- 30_encoding.md R64: 12..15 have no meaning. -/
theorem test_unused_port_index_stops :
    exec (.portUnused 1#2 true) State.reset = .fault .portIndexOutsideDomain ∧
      exec (.setbit 13#4 true) State.reset = .fault .portIndexOutsideDomain := ⟨rfl, rfl⟩

/-! ### Ticks and their steps -/

/-- T11, tick 3: cursor 2, 4DB on the lines after 000, 23 transactions. -/
theorem test_tick_225_digit_2 :
    nextHas (exec .tick (bound text225 2#2 0x25B#12))
      (fun t => t.lineLog.map linesWord == [0x000#12, 0x4DB#12] && t.cursor == 3#2 && t.trace.length == 23 &&
        t.answer == some (.result .done)) = true := by decide

/-- T14, tick 2: cursor 3 wraps to 0, the dot survives the truncation. -/
theorem test_tick_wraps_the_cursor :
    nextHas (exec .tick (bound [0x49#8, 0x44#8, 0x23#8, 0x37#8, 0x2E#8, 0x35#8, 0x78#8, 0xC2#8, 0xB0#8] 3#2 0x400#12))
      (fun t => linesWord t.portOut == 0x887#12 && t.cursor == 0#2) = true := by decide

/-- T12, tick 5: a collaborator is missing, nothing moves. -/
theorem test_tick_skipped :
    nextHas (exec .tick { bound [0x45#8, 0x72#8, 0x72#8] 2#2 0x279#12 with portAvail := false })
      (fun t => t.cursor == 2#2 && linesWord t.portOut == 0x279#12 && t.trace.isEmpty && t.answer == some (.result .skipped)) = true := by
  decide

/-- Step 2 from FFF (42_multiplex_scheduler.md R123). -/
theorem test_tick2_clears :
    nextHas (exec .tick2Clear (bound [] 0#2 0xFFF#12)) (fun t => linesWord t.portOut == 0#12 && t.trace.length == 13) = true := by
  decide

/-- Steps 3 to 6 on "22.5" with cursor 1 (T11, tick 2): {6D,0}, SEL1, 5B. -/
theorem test_tick3_and_tick4 :
    nextHas (exec .tick3Frame (bound text225 1#2 0#12))
        (fun t => t.perTick.frame.cells == [⟨0#8, false⟩, ⟨0x6D#8, false⟩, ⟨0x6D#8, true⟩, ⟨0x5B#8, false⟩]) = true ∧
      nextHas (exec .tick4Cell { bound text225 1#2 0#12 with perTick := { TickVals.idle with frame := format text225 } })
        (fun t => t.perTick.cell == ⟨0x6D#8, false⟩) = true := by decide

theorem test_tick5_and_tick6 :
    nextHas (exec .tick5Select (bound text225 1#2 0#12)) (fun t => linesWord t.portBuf == 0x200#12) = true ∧
      nextHas (exec .tick6Segments { bound text225 1#2 0x200#12 with perTick := { TickVals.idle with cell := ⟨0x6D#8, false⟩ } })
        (fun t => linesWord t.portBuf == 0x25B#12 && linesWord t.portOut == 0x200#12) = true := by decide

theorem test_tick1_and_tick8 :
    nextHas (exec .tick1Guard { bound [] 3#2 0#12 with textAvail := false }) (fun t => t.answer == some (.result .skipped)) = true ∧
      nextHas (exec .tick8Advance (bound [] 3#2 0#12)) (fun t => t.cursor == 0#2 && t.answer == some (.result .done)) = true := by
  decide

/-! ### Host entries and steps -/

/-- V-X4: RESET leaves the port alone. -/
theorem test_reset_leaves_the_port :
    nextHas (exec .reset (bound [] 3#2 0x8E6#12)) (fun t => t.cursor == 0#2 && linesWord t.portOut == 0x8E6#12 && t.trace.isEmpty) = true := by
  decide

/-- V-X5: BIND_PORT does not clear the port; T12, BIND_TEXT. -/
theorem test_bindings :
    nextHas (exec .bindPort { bound [] 0#2 0xF00#12 with portAvail := false })
        (fun t => t.portAvail && linesWord t.portOut == 0xF00#12 && t.trace.isEmpty) = true ∧
      nextHas (exec .bindText { bound [] 0#2 0xF0F#12 with textAvail := false, portAvail := false })
        (fun t => t.textAvail && !t.portAvail) = true := by decide

/-- R155's example: "22.5" is read as [32, 32, 2E, 35]. -/
theorem test_textread :
    nextHas (exec .textread (bound text225 0#2 0#12)) (fun t => t.answer == some (.text [0x32#8, 0x32#8, 0x2E#8, 0x35#8])) = true := by
  decide

/-- T13: the text owner's write is no event for SEG7MUX. -/
theorem test_step_text_owner :
    nextHas (step { bound text225 2#2 0x206#12 with scenario := [.input (.ownerText [0x32#8, 0x30#8])] })
      (fun t => t.text == [0x32#8, 0x30#8] && t.cursor == 2#2 && linesWord t.portOut == 0x206#12 && t.trace.isEmpty) = true := by decide

/-- A request that encodes nothing is refused by name. -/
theorem test_step_refuses_a_bad_request :
    step { State.reset with scenario := [.request [0x02#8, 0#8]] } = .refused (.badRequest (.unknownStep 0#8)) := rfl

/-! ### Cases that meet the hypotheses of the statements -/

theorem witness_EncodeReadsTheRomInsideItsDomain :
    ((0 : Fin 95).val + 32 = (0x20#8).toNat ∧ (94 : Fin 95).val + 32 = (0x7E#8).toNat) ∧
      ¬(32 ≤ (0x1F#8).toNat ∧ (0x1F#8).toNat ≤ 126) ∧ ¬(32 ≤ (0x7F#8).toNat ∧ (0x7F#8).toNat ≤ 126) := by decide

theorem witness_UpperCaseAndAtGlyphs :
    [0x41#8, 0x5A#8, 0x61#8, 0x7A#8].all (fun c : Code =>
      decide ((0x41 ≤ c.toNat ∧ c.toNat ≤ 0x5A) ∨ (0x61 ≤ c.toNat ∧ c.toNat ≤ 0x7A))) = true := by decide

theorem witness_CodesOutsideTheRomAreBlank : (0x1F#8).toNat < 32 ∧ 126 < (0x7F#8).toNat := by decide

theorem witness_FoldBuildsOneCellPerCharacter :
    (0x2D#8 ≠ 0x2E#8 ∧ 0x2F#8 ≠ 0x2E#8) ∧ fold [0x2E#8] = [] ∧ fold [0x31#8] = [] ++ [⟨0x30#8, false⟩] := by decide

theorem witness_FoldOfCharactersWithTheirDots : ∀ x ∈ [(0x31#8, 0), (0x32#8, 2)], x.1 ≠ 0x2E#8 := by decide

theorem witness_PadFillsBlanksAtTheLeft :
    ([⟨1#8, false⟩, ⟨1#8, false⟩, ⟨1#8, false⟩] : List Cell).length < 4 ∧
      4 ≤ ([⟨1#8, false⟩, ⟨1#8, false⟩, ⟨1#8, false⟩, ⟨1#8, false⟩] : List Cell).length := by decide

theorem witness_Keep4OfShortSequencesCompletes : ([⟨1#8, false⟩, ⟨1#8, true⟩, ⟨1#8, false⟩] : List Cell).length < 4 := by decide

theorem witness_FormatDependsOnTheFirstFourCharacters :
    4 ≤ ([0x31#8, 0x32#8, 0x33#8, 0x2E#8, 0x34#8].filter (fun x : Code => x ≠ 0x2E#8)).length ∧ 0x35#8 ≠ 0x2E#8 := by decide

theorem witness_FormatOfTextWithoutDots :
    (∀ c ∈ [0x31#8, 0x32#8, 0x33#8, 0x34#8], c ≠ 0x2E#8) ∧ [0x31#8, 0x32#8, 0x33#8].length < 4 ∧
      4 ≤ [0x31#8, 0x32#8, 0x33#8, 0x34#8].length := by decide

theorem witness_ProseReadingDiffersOnOneFamily :
    4 ≤ [0x2E#8, 0x31#8, 0x32#8, 0x33#8].length ∧ [0x31#8].head? ≠ some 0x2E#8 ∧
      ([0x2E#8, 0x31#8, 0x32#8].length < 4 ∧ [0x2E#8, 0x31#8, 0x32#8].head? = some 0x2E#8) := by decide

theorem witness_PermuteReversesTheLowSevenBits : (0 < 7 ∧ 6 < 7) ∧ ¬7 < 7 := by decide

theorem witness_SelectStepAssertsTheCursorsLine : selectLine 3#2 = .sel3 ∧ Line.segA ≠ .sel3 ∧ Line.sel2 ≠ .sel3 := by decide

theorem witness_SegmentStepWritesThePermutedPattern : (0 < 7 ∧ 6 < 7) ∧ 8 ≤ 8 ∧ 8 ≤ 11 := by decide

theorem witness_MissingCollaboratorSkipsTheTick :
    ¬({ bound [] 0#2 0#12 with textAvail := false }.textAvail = true ∧ (bound [] 0#2 0#12).portAvail = true) ∧
      ¬((bound [] 0#2 0#12).textAvail = true ∧ { bound [] 0#2 0#12 with portAvail := false }.portAvail = true) := by decide

theorem witness_GuardLetsABoundTickGoOn : (bound text225 3#2 0#12).textAvail = true ∧ (bound text225 3#2 0#12).portAvail = true :=
  ⟨rfl, rfl⟩

theorem witness_FrameAndCellStepsReadTheText : (bound text225 0#2 0#12).textAvail = true := rfl

/-- Both clauses: a bound state, and a state with one collaborator missing. -/
theorem witness_CompletedTickDrivesOneDigit :
    ((bound text225 3#2 0xFFF#12).textAvail = true ∧ (bound text225 3#2 0xFFF#12).portAvail = true) ∧
      ¬(State.reset.textAvail = true ∧ State.reset.portAvail = true) := by decide

theorem witness_TickIsItsEightSteps : (bound text225 3#2 0#12).textAvail = true ∧ (bound text225 3#2 0#12).portAvail = true :=
  ⟨rfl, rfl⟩

/-- Two states that differ in their ports and per-tick values. -/
theorem witness_TickIgnoresThePortAndCarriedValues :
    let a := bound text225 1#2 0xFFF#12
    let b := { bound text225 1#2 0x000#12 with perTick := { TickVals.idle with eff := 0xED#8 } }
    a.textAvail = true ∧ a.portAvail = true ∧ b.textAvail = true ∧ b.portAvail = true ∧ a.cursor = b.cursor ∧ a.text = b.text :=
  ⟨rfl, rfl, rfl, rfl, rfl, rfl⟩

theorem witness_FourTicksShowEveryDigitOnce : (bound text225 3#2 0#12).textAvail = true ∧ (bound text225 3#2 0#12).portAvail = true :=
  ⟨rfl, rfl⟩

/-- A state after a completed tick, with a tick and a text change to come. -/
def midCycle : State :=
  { bound text225 1#2 0x100#12 with
    trace := tickTransactions 0x00#8 0#2, lineLog := [linesOff, wordLines 0x100#12],
    scenario := [.request [0x03#8, 7#8], .input (.ownerText [0x31#8])] }

theorem witness_StepKeepsNoGhosting : NoGhosting midCycle ∧ ∃ t, step midCycle = .next t :=
  ⟨⟨by decide, by decide, fun p h => Option.some.inj h⟩, ⟨_, rfl⟩⟩

/-- The premise of the second clause, and a bound state whose PORT_BUF meets it (T11, before tick 2) and one whose does not (T16). -/
theorem witness_BufferHoldsOneSelectInsideATick :
    atMostOneSelect (wordLines 0x85C#12) = true ∧
      ((bound text225 1#2 0x100#12).textAvail = true ∧ (bound text225 1#2 0x100#12).portAvail = true ∧
        atMostOneSelect (bound text225 1#2 0x100#12).portBuf = true) ∧
      atMostOneSelect (bound text225 1#2 0xFFF#12).portBuf = false := by decide

/-- A bound state whose buffer and lines differ. -/
theorem witness_BufferReadingsAgreeOnTicks :
    let s := { bound text225 1#2 0xFFF#12 with portOut := linesOff }
    s.textAvail = true ∧ s.portAvail = true ∧ s.portBuf ≠ s.portOut := by decide

theorem witness_StepKeepsPortRecords : PortRecords midCycle ∧ ∃ t, step midCycle = .next t := by
  refine ⟨⟨fun l v h => ?_, fun p h => Option.some.inj h, by decide⟩, ⟨_, rfl⟩⟩
  cases l <;> exact Option.some.inj h

theorem witness_SetbitBuffersOneBit : (0#4).toNat < 12 ∧ (11#4).toNat < 12 := by decide

theorem witness_PortIndicesTwelveToFifteenStop : 12 ≤ (12#4).toNat ∧ 12 ≤ (15#4).toNat ∧ ¬12 ≤ (11#4).toNat := by decide

theorem witness_TextreadGivesTheWholeText : (bound [] 0#2 0#12).textAvail = true := rfl

theorem witness_UnboundTextReadsComplete : State.reset.textAvail = false := rfl

theorem witness_FirstTickAfterResetShowsDigitZero :
    ((bound text225 3#2 0#12).resetOp.textAvail = true ∧ (bound text225 3#2 0#12).resetOp.portAvail = true) ∧
      ¬(State.reset.resetOp.textAvail = true ∧ State.reset.resetOp.portAvail = true) := by decide

theorem witness_DecodingEncodedOperationsGivesThemBack :
    (Instr.setbit 11#4 true).wellFormed = true ∧ Instr.char51.wellFormed = true := by decide

theorem witness_DecodedRequestsAreWellFormed : decode [0x03#8, 8#8, 11#8, 1#8] = .ok (.setbit 11#4 true) := rfl

theorem witness_StepRunsTheDecodedRequest :
    (midCycle.scenario = .request [0x03#8, 7#8] :: [.input (.ownerText [0x31#8])] ∧ decode [0x03#8, 7#8] = .ok .tick ∧
      Instr.tick.wellFormed = true) ∧ decodeTableWord 8 0x51 = some .char51 ∧ decodeTableWord 16 0xB = some (.portSel3 false) :=
  ⟨⟨rfl, rfl, rfl⟩, rfl, rfl⟩

theorem witness_OutsideMovesChangeOnlyTheirInput :
    ∀ x : Input, { State.reset with scenario := [.input x] }.scenario = .input x :: [] := fun _ => rfl

theorem witness_StepWithoutEventsIsATick : State.reset.scenario = [] := rfl

theorem witness_OnlyTicksAndResetWriteTheCursor : ∃ t, exec .tick5Select (bound [] 2#2 0#12) = .next t := ⟨_, rfl⟩

/-- RESET, and the two operations that raise a level. -/
theorem witness_NoOperationWritesTheInputs :
    (∃ t, exec .reset (bound text225 2#2 0#12) = .next t) ∧ (∃ t, exec .bindText State.reset = .next t) ∧
      ∃ t, exec .bindPort State.reset = .next t := ⟨⟨_, rfl⟩, ⟨_, rfl⟩, ⟨_, rfl⟩⟩

/-- An operation that commits, one that does not, and RESET. -/
theorem witness_LinesMoveOnlyAtACommit :
    (∃ t, exec .tick2Clear (bound text225 2#2 0xFFF#12) = .next t) ∧ (∃ t, exec (.portA true) (bound text225 2#2 0xFFF#12) = .next t) ∧
      ∃ t, exec .reset midCycle = .next t := ⟨⟨_, rfl⟩, ⟨_, rfl⟩, ⟨_, rfl⟩⟩

theorem witness_EveryOperationInDomainCompletes :
    (Instr.setbit 11#4 false).wellFormed = true ∧ ∀ k v, Instr.setbit 11#4 false ≠ .portUnused k v := by decide

theorem witness_FoldAndFormatLeaveTheMachineAlone :
    (decode [0x00#8, 0x51#8] = .ok .char51 ∧ [0x00#8, 0x51#8].head? = some 0x00#8) ∧
      (decode [0x03#8, 6#8, 0x7E#8] = .ok (.permute 0x7E#8) ∧ [0x03#8, 6#8, 0x7E#8].head? = some 0x03#8 ∧
        ∃ n : Fin 7, [0x03#8, 6#8, 0x7E#8][1]? = some (BitVec.ofNat 8 n.val)) :=
  ⟨⟨rfl, rfl⟩, rfl, rfl, 6, rfl⟩

end Sys2Proof.Tests
end

