-- ==== Sys2Proof/Proofs/Step.lean ====
section
/-! SUPPORT. How a step comes to run an operation: what a request at the head of the scenario does, and what the reading of a table
word gives. -/

namespace Sys2Proof.Machine

theorem takeEvent_of_scenario_cons {s : State} {e : Event} {rest : List Event} (hs : s.scenario = e :: rest) :
    takeEvent s = some (e, { s with scenario := rest }) := by
  simp [takeEvent, hs]

theorem step_of_request {s : State} {bytes : List Byte} {rest : List Event} {i : Instr}
    (hs : s.scenario = .request bytes :: rest) (hd : decode bytes = .ok i) :
    step s = exec i { s with scenario := rest } := by
  simp [step, takeEvent_of_scenario_cons hs, hd]

/-- A request put before the scenario is what the next step runs, and taking it out gives the old state back. -/
theorem step_withRequest {s : State} {bytes : List Byte} {i : Instr} (hd : decode bytes = .ok i) :
    step (s.withRequest bytes) = exec i s :=
  step_of_request (withRequest_scenario s bytes) hd

/-- A table word is read as the operation its request bytes decode to (log 3). -/
theorem decodeTableWord_eq_some_iff {nbits w : Nat} {i : Instr} :
    decodeTableWord nbits w = some i ↔ decode (tableBytes nbits w) = .ok i := by
  unfold decodeTableWord
  cases decode (tableBytes nbits w) <;> simp

/-- Settles O48: both clauses are the rule of a request at the head of the scenario. The first clause's premise that the operation
is well formed is not needed. -/
theorem stepRunsTheDecodedRequest : Obligations.StepRunsTheDecodedRequest := by
  unfold Obligations.StepRunsTheDecodedRequest
  constructor
  · intro s bytes rest i hs hd _
    exact step_of_request hs hd
  · intro s nbits w i hw
    exact step_withRequest (decodeTableWord_eq_some_iff.mp hw)

end Sys2Proof.Machine
end

/-! SUPPORT. What an operation does to the state as a whole, the port as the transactions leave it, and the statements about who may
write which part of the state. -/

namespace Sys2Proof.Machine

/-! ### Runs of SETBITs and whole ticks as one update of the state -/

/-- A run of SETBITs writes the buffer and the trace and nothing else (43_port_and_text_interfaces.md R151). -/
theorem setBits_eq (s : State) (ls : List Line) (v : Line → Bool) :
    s.setBits ls v = { s with
      portBuf := ls.foldl (fun p l => setLine p l (v l)) s.portBuf
      trace := s.trace ++ ls.map fun l => .setBit l (v l) } := by
  induction ls generalizing s with
  | nil => simp [State.setBits]
  | cons l ls ih => simpa [State.setBits, State.setBit] using ih (s.setBit l (v l))

/-- Step 2 blanks the port, whatever it held (42_multiplex_scheduler.md R123). -/
theorem tickClear_eq (s : State) :
    tickClear s = { s with
      portBuf := linesOff
      portOut := linesOff
      trace := s.trace ++ (clearTransactions ++ [.commit])
      lineLog := s.lineLog ++ [linesOff] } := by
  have hoff : (s.setBits allLines fun _ => false).portBuf = linesOff :=
    lines_ext _ _ fun l => by rw [setBits_all, getLine_linesOff]
  rw [setBits_eq] at hoff
  simp only [tickClear, setBits_eq, State.commit, hoff, List.append_assoc]
  rfl

/-- The SETBITs of step 6 for a pattern, in ascending index (42_multiplex_scheduler.md R132). -/
theorem map_segmentLines_permute (e : Pattern) :
    segmentLines.map (fun l => Txn.setBit l (permute e (lineIndex l))) = segmentTransactions e := rfl

/-- What the port holds when a tick is done: the select line of digit `i` and the eight segment lines of the pattern `e`, over the
cleared port (42_multiplex_scheduler.md R123, R127, R129). -/
def digitLines (e : Pattern) (i : Cursor) : Lines :=
  segmentLines.foldl (fun p l => setLine p l (permute e (lineIndex l))) (setLine linesOff (selectLine i) true)

/-- The state after a completed tick: of what the state held, only CURSOR and TEXT say what is written
(42_multiplex_scheduler.md R121, R132). -/
def afterTick (s : State) : State :=
  let e := drivenPattern s.text s.cursor
  { s with
    cursor := s.cursor + 1#2
    portBuf := digitLines e s.cursor
    portOut := digitLines e s.cursor
    perTick := TickVals.idle
    trace := s.trace ++ tickTransactions e s.cursor
    lineLog := s.lineLog ++ [linesOff, digitLines e s.cursor]
    answer := some (.result .done) }

/-- TICK with both collaborators. -/
theorem exec_tick_bound {s : State} (ht : s.textAvail = true) (hp : s.portAvail = true) :
    exec .tick s = .next (afterTick s) := by
  have hb : s.bothBound = true := by simp [State.bothBound, ht, hp]
  simp [exec, execTick, hb, ht, tickClear_eq, tickFrame, tickCell, tickSelect, tickSegments, tickCommit, tickAdvance, setBits_eq,
    State.withPerTick, State.setBit, State.commit, State.withCursor, State.answering, afterTick, digitLines, drivenPattern,
    tickTransactions, map_segmentLines_permute]

/-- TICK with a collaborator missing is skipped (60_exceptions.md R171). -/
theorem exec_tick_unbound {s : State} (h : ¬(s.textAvail = true ∧ s.portAvail = true)) :
    exec .tick s = skipMissingCollaborator s := by
  have hb : s.bothBound = false := by simpa [State.bothBound] using h
  simp [exec, execTick, hb]

/-! ### Everything an operation can do -/

/-- What the operation `i` makes of the state `s`, when it goes on: most operations only give an answer, the forms of SETBIT set one
line, and the others have one effect each. -/
inductive Effect (s : State) : Instr → State → Prop
  | answer (i : Instr) (a : Option Answer) : Effect s i (s.answering a)
  | setBit (i : Instr) (l : Line) (v : Bool) : Effect s i ((s.setBit l v).answering none)
  | guard : Effect s .tick1Guard ((s.withPerTick TickVals.idle).answering none)
  | clear : Effect s .tick2Clear ((tickClear s).answering none)
  | frame : Effect s .tick3Frame ((tickFrame s).answering none)
  | cell : Effect s .tick4Cell ((tickCell s).answering none)
  | segments : Effect s .tick6Segments ((tickSegments s).answering none)
  | stepCommit : Effect s .tick7Commit (s.commit.answering none)
  | advance : Effect s .tick8Advance ((tickAdvance s).answering (some (.result .done)))
  | tick : Effect s .tick (afterTick s)
  | commit : Effect s .commit (s.commit.answering none)
  | textread : Effect s .textread (s.afterRead.answering (some (.text s.readText)))
  | bindText : Effect s .bindText { s with textAvail := true, answer := none }
  | bindPort : Effect s .bindPort { s with portAvail := true, answer := none }
  | reset : Effect s .reset s.resetOp

theorem effect_of_answerGlyph {i : Instr} {c : Code} {s t : State} (h : answerGlyph c s = .next t) : Effect s i t := by
  cases h
  exact .answer i _

theorem effect_of_setBitOp {i : Instr} {l : Line} {v : Bool} {s t : State} (h : setBitOp l v s = .next t) : Effect s i t := by
  rw [setBitOp_spec l v s t h]
  exact .setBit i l v

theorem effect_of_skip {i : Instr} {s t : State} (h : skipMissingCollaborator s = .next t) : Effect s i t := by
  rw [skipMissingCollaborator_spec s t h]
  exact .answer i _

theorem effect_of_setbit {k : BitVec 4} {v : Bool} {s t : State} (h : execSetbit k v s = .next t) :
    Effect s (.setbit k v) t := by
  unfold execSetbit at h
  split at h
  · exact effect_of_setBitOp h
  · cases h

theorem effect_of_guard {s t : State} (h : execTick1Guard s = .next t) : Effect s .tick1Guard t := by
  unfold execTick1Guard at h
  split at h
  · cases h
    exact .guard
  · exact effect_of_skip h

theorem effect_of_tick {s t : State} (h : exec .tick s = .next t) : Effect s .tick t := by
  by_cases hb : s.textAvail = true ∧ s.portAvail = true
  · rw [exec_tick_bound hb.1 hb.2] at h
    cases h
    exact .tick
  · rw [exec_tick_unbound hb] at h
    exact effect_of_skip h

/-- The one case split over the rows of `exec`; what is left at the end are the CHAR rows and ENCODE. -/
theorem exec_effect {i : Instr} {s t : State} (h : exec i s = .next t) : Effect s i t := by
  cases i with
  | portA v | portB v | portC v | portD v | portE v | portF v | portG v | portDP v
  | portSel0 v | portSel1 v | portSel2 v | portSel3 v => exact effect_of_setBitOp h
  | portUnused k v => cases h
  | setbit k v => exact effect_of_setbit h
  | tick1Guard => exact effect_of_guard h
  | tick2Clear => cases h; exact .clear
  | tick3Frame => cases h; exact .frame
  | tick4Cell => cases h; exact .cell
  | tick5Select => cases h; exact .setBit _ _ _
  | tick6Segments => cases h; exact .segments
  | tick7Commit => cases h; exact .stepCommit
  | tick8Advance => cases h; exact .advance
  | tick => exact effect_of_tick h
  | commit => cases h; exact .commit
  | textread => cases h; exact .textread
  | bindText => cases h; exact .bindText
  | bindPort => cases h; exact .bindPort
  | reset => cases h; exact .reset
  | fold _ | pad _ | keep4 _ | format _ | cellword _ | permute _ => cases h; exact .answer _ _
  | _ => exact effect_of_answerGlyph h

/-! ### The port as a list of transactions leaves it -/

/-- `PORT_BUF` at the end of a list of transactions (43_port_and_text_interfaces.md R151, R152). -/
def bufferAfter (buf : Lines) : List Txn → Lines
  | [] => buf
  | .setBit l v :: rest => bufferAfter (setLine buf l v) rest
  | .commit :: rest => bufferAfter buf rest

theorem bufferAfter_map_setBit (buf : Lines) (ls : List Line) (v : Line → Bool) :
    bufferAfter buf (ls.map fun l => .setBit l (v l)) = ls.foldl (fun p l => setLine p l (v l)) buf := by
  induction ls generalizing buf with
  | nil => rfl
  | cons l ls ih => exact ih (setLine buf l (v l))

theorem readingA_map_setBit (buf : Lines) (ls : List Line) (v : Line → Bool) :
    readingA buf (ls.map fun l => .setBit l (v l)) = [] := by
  induction ls generalizing buf with
  | nil => rfl
  | cons l ls ih => exact ih (setLine buf l (v l))

/-- A line of the buffer holds the value last written to it, or, if none was, what it held before (10_state.md R27). -/
theorem getLine_bufferAfter (buf : Lines) (T : List Txn) (l : Line) :
    getLine (bufferAfter buf T) l = (lastWritten l T).getD (getLine buf l) := by
  induction T generalizing buf with
  | nil => rfl
  | cons x T ih =>
    cases x with
    | commit => exact ih buf
    | setBit m v =>
      rw [bufferAfter, ih, lastWritten, getLine_setLine]
      cases lastWritten l T with
      | some u => rfl
      | none => by_cases hm : m = l <;> simp [hm]

/-- The last writing of a line in two traces is that of the second, if it has one. -/
theorem lastWritten_append (l : Line) (T U : List Txn) :
    lastWritten l (T ++ U) = (lastWritten l U).or (lastWritten l T) := by
  induction T with
  | nil => simp [lastWritten]
  | cons x T ih =>
    cases x with
    | commit => exact ih
    | setBit m v =>
      rw [List.cons_append, lastWritten, lastWritten, ih]
      cases lastWritten l U <;> simp

/-- Every COMMIT gives the lines one value (43_port_and_text_interfaces.md R152). -/
theorem length_readingA (buf : Lines) (T : List Txn) : (readingA buf T).length = T.count .commit := by
  induction T generalizing buf with
  | nil => rfl
  | cons x T ih =>
    cases x with
    | commit => simp [readingA, ih]
    | setBit m v => simp [readingA, ih]

theorem bufferAfter_tickTransactions (buf : Lines) (e : Pattern) (i : Cursor) :
    bufferAfter buf (tickTransactions e i) = digitLines e i := rfl

/-- The two values of the lines in a tick: all off, then the digit (42_multiplex_scheduler.md R123, R130). -/
theorem readingA_tickTransactions (buf : Lines) (e : Pattern) (i : Cursor) :
    readingA buf (tickTransactions e i) = [linesOff, digitLines e i] := rfl

/-- From `s` to `t` the port took the transactions `T`: the buffer and the lines are as they leave them, and both records grew by
them and by the values they gave the lines (10_state.md R27, R28). -/
structure PortTakes (s : State) (T : List Txn) (t : State) : Prop where
  buffer : t.portBuf = bufferAfter s.portBuf T
  lines : t.portOut = (readingA s.portBuf T).getLast?.getD s.portOut
  trace : t.trace = s.trace ++ T
  lineLog : t.lineLog = s.lineLog ++ readingA s.portBuf T

/-- No transaction where the port and its records are as before. -/
theorem portTakes_nil {s t : State} (hb : t.portBuf = s.portBuf) (ho : t.portOut = s.portOut) (ht : t.trace = s.trace)
    (hl : t.lineLog = s.lineLog) : PortTakes s [] t := by
  constructor <;> simp [hb, ho, ht, hl, bufferAfter, readingA]

/-- Giving an answer back is no transaction. -/
theorem PortTakes.answering {s t : State} {T : List Txn} (h : PortTakes s T t) (a : Option Answer) :
    PortTakes s T (t.answering a) :=
  ⟨h.buffer, h.lines, h.trace, h.lineLog⟩

theorem portTakes_tickClear (s : State) : PortTakes s (clearTransactions ++ [.commit]) (tickClear s) := by
  rw [tickClear_eq]
  exact ⟨rfl, rfl, rfl, rfl⟩

theorem portTakes_tickSegments (s : State) :
    PortTakes s (segmentTransactions (cellWord s.perTick.cell)) (tickSegments s) := by
  rw [← map_segmentLines_permute]
  constructor <;> simp [tickSegments, setBits_portBuf, setBits_trace, bufferAfter_map_setBit, readingA_map_setBit]

/-- Every operation but RESET moves the port and its records by transactions alone. -/
theorem exec_portTakes {i : Instr} {s t : State} (h : exec i s = .next t) (hi : i ≠ .reset) : ∃ T, PortTakes s T t := by
  cases exec_effect h with
  | answer _ a => exact ⟨[], portTakes_nil rfl rfl rfl rfl⟩
  | setBit _ l v => exact ⟨[.setBit l v], rfl, rfl, rfl, by simp [readingA]⟩
  | guard | cell | advance | bindText | bindPort => exact ⟨[], portTakes_nil rfl rfl rfl rfl⟩
  | frame => exact ⟨[], portTakes_nil (by simp [tickFrame]) (by simp [tickFrame]) (by simp [tickFrame]) (by simp [tickFrame])⟩
  | textread => exact ⟨[], portTakes_nil (by simp) (by simp) (by simp) (by simp)⟩
  | clear => exact ⟨_, (portTakes_tickClear s).answering none⟩
  | segments => exact ⟨_, (portTakes_tickSegments s).answering none⟩
  | stepCommit | commit => exact ⟨[.commit], rfl, rfl, rfl, rfl⟩
  | tick => exact ⟨tickTransactions (drivenPattern s.text s.cursor) s.cursor, rfl, rfl, rfl, rfl⟩
  | reset => exact absurd rfl hi

/-! ### The port agrees with its records -/

/-- Transactions keep the agreement: the buffer's lines are those last written, the lines are the last value on record. -/
theorem PortTakes.portRecords {s t : State} {T : List Txn} (h : PortTakes s T t) (hs : PortRecords s) : PortRecords t where
  buffer l v hv := by
    rw [h.trace, lastWritten_append] at hv
    rw [h.buffer, getLine_bufferAfter]
    cases hT : lastWritten l T with
    | some u => simpa [hT] using hv
    | none => exact hs.buffer l v (by simpa [hT] using hv)
  lines p hp := by
    rw [h.lineLog, List.getLast?_append] at hp
    rw [h.lines]
    cases hL : (readingA s.portBuf T).getLast? with
    | some q => simpa [hL] using hp
    | none => exact hs.lines p (by simpa [hL] using hp)
  commits := by
    rw [h.lineLog, h.trace, List.length_append, List.count_append, hs.commits, length_readingA]

theorem PortRecords.of_same_port {s t : State} (hs : PortRecords s) (hb : t.portBuf = s.portBuf) (ho : t.portOut = s.portOut)
    (ht : t.trace = s.trace) (hl : t.lineLog = s.lineLog) : PortRecords t :=
  (portTakes_nil hb ho ht hl).portRecords hs

/-- With trace and record empty there is nothing to agree with. -/
theorem portRecords_of_empty {s : State} (ht : s.trace = []) (hl : s.lineLog = []) : PortRecords s where
  buffer l v hv := by simp [ht, lastWritten] at hv
  lines p hp := by simp [hl] at hp
  commits := by simp [ht, hl]

theorem exec_keeps_portRecords {i : Instr} {s t : State} (h : exec i s = .next t) (hs : PortRecords s) : PortRecords t := by
  by_cases hi : i = .reset
  · subst hi
    cases h
    exact portRecords_of_empty rfl rfl
  · obtain ⟨T, hT⟩ := exec_portTakes h hi
    exact hT.portRecords hs

theorem applyInput_keeps_portRecords (x : Input) {s : State} (hs : PortRecords s) : PortRecords (applyInput x s) := by
  cases x with
  | systemReset => exact portRecords_of_empty rfl rfl
  | ownerText | textLevel | portLevel => exact hs.of_same_port rfl rfl rfl rfl

/-- Settles O34: a step is a tick, a move of the outside world or a requested operation, and each keeps the agreement. -/
theorem stepKeepsPortRecords : Obligations.StepKeepsPortRecords := by
  unfold Obligations.StepKeepsPortRecords
  intro s t hs h
  have hrest (rest : List Event) : PortRecords { s with scenario := rest } := hs.of_same_port rfl rfl rfl rfl
  rcases step_cases s t h with ⟨-, htick⟩ | ⟨x, rest, -, rfl⟩ | ⟨bytes, rest, i, -, -, hexec⟩
  · exact exec_keeps_portRecords htick hs
  · exact applyInput_keeps_portRecords x (hrest rest)
  · exact exec_keeps_portRecords hexec (hrest rest)

/-! ### Who writes what -/

/-- Settles O29: the state after a tick is written from CURSOR and TEXT. -/
theorem tickIgnoresThePortAndCarriedValues : Obligations.TickIgnoresThePortAndCarriedValues := by
  unfold Obligations.TickIgnoresThePortAndCarriedValues
  intro a b hat hap hbt hbp hcursor htext
  refine ⟨afterTick a, afterTick b, tickTransactions (drivenPattern a.text a.cursor) a.cursor,
    [linesOff, digitLines (drivenPattern a.text a.cursor) a.cursor], exec_tick_bound hat hap, exec_tick_bound hbt hbp, ?_⟩
  simp [afterTick, hcursor, htext]

/-- Settles O52, effect by effect. -/
theorem onlyTicksAndResetWriteTheCursor : Obligations.OnlyTicksAndResetWriteTheCursor := by
  unfold Obligations.OnlyTicksAndResetWriteTheCursor
  intro i s t h
  cases exec_effect h with
  | tick => exact .inr (.inl rfl)
  | advance => exact .inr (.inr (.inl rfl))
  | reset => exact .inr (.inr (.inr rfl))
  | clear => simp [tickClear]
  | frame => simp [tickFrame]
  | segments => simp [tickSegments]
  | textread => simp
  | answer | setBit | guard | cell | stepCommit | commit | bindText | bindPort => exact .inl rfl

/-- TEXT and the scenario stay, and each level stays but for its own binding. -/
theorem exec_keeps_inputs {i : Instr} {s t : State} (h : exec i s = .next t) :
    t.text = s.text ∧ t.scenario = s.scenario ∧ (i = .bindText ∨ t.textAvail = s.textAvail) ∧
      (i = .bindPort ∨ t.portAvail = s.portAvail) := by
  cases exec_effect h with
  | bindText => exact ⟨rfl, rfl, .inl rfl, .inr rfl⟩
  | bindPort => exact ⟨rfl, rfl, .inr rfl, .inl rfl⟩
  | clear => simp [tickClear]
  | frame => simp [tickFrame]
  | segments => simp [tickSegments]
  | textread => simp
  | answer | setBit | guard | cell | stepCommit | advance | tick | commit | reset => exact ⟨rfl, rfl, .inr rfl, .inr rfl⟩

/-- Settles O53: the two bindings by their own meaning, the other operations by their effects. -/
theorem noOperationWritesTheInputs : Obligations.NoOperationWritesTheInputs := by
  unfold Obligations.NoOperationWritesTheInputs
  intro i s t h
  obtain ⟨htext, hscenario, htextAvail, hportAvail⟩ := exec_keeps_inputs h
  refine ⟨htext, hscenario, ?_, htextAvail.resolve_left, ?_, hportAvail.resolve_left⟩
  · rintro rfl
    cases h
    rfl
  · rintro rfl
    cases h
    rfl

/-- The lines and their record move in COMMIT, TICK, TICK.2 and TICK.7, and RESET empties the record. -/
theorem exec_keeps_lines {i : Instr} {s t : State} (h : exec i s = .next t) :
    i = .commit ∨ i = .tick ∨ i = .tick2Clear ∨ i = .tick7Commit ∨
      (t.portOut = s.portOut ∧ (i ≠ .reset → t.lineLog = s.lineLog)) := by
  cases exec_effect h with
  | commit => exact .inl rfl
  | tick => exact .inr (.inl rfl)
  | clear => exact .inr (.inr (.inl rfl))
  | stepCommit => exact .inr (.inr (.inr (.inl rfl)))
  | reset => simp
  | frame => simp [tickFrame]
  | segments => simp [tickSegments]
  | textread => simp
  | answer | setBit | guard | cell | advance | bindText | bindPort => simp [tickCell, tickAdvance]

/-- Settles O54: which operations move the lines is seen effect by effect; that the move is on the trace is what it is to take
transactions. -/
theorem linesMoveOnlyAtACommit : Obligations.LinesMoveOnlyAtACommit := by
  unfold Obligations.LinesMoveOnlyAtACommit
  intro i s t h
  refine ⟨exec_keeps_lines h, ?_, fun hi => ?_⟩
  · rintro rfl
    cases h
    exact ⟨rfl, rfl⟩
  · obtain ⟨T, -, hlines, htrace, hlog⟩ := exec_portTakes h hi
    refine ⟨T, readingA s.portBuf T, htrace, hlog, length_readingA s.portBuf T, fun hnil => ?_, fun p hp => ?_⟩
    · simp [hlines, hnil]
    · simp [hlines, hp]

/-! ### The PORTIDX rows -/

/-- SETBIT of a line's own index sets that line (43_port_and_text_interfaces.md R151, 30_encoding.md R64). -/
theorem exec_setbit_lineIndex (l : Line) (v : Bool) (s : State) :
    exec (.setbit (BitVec.ofNat 4 (lineIndex l)) v) s = .next ((s.setBit l v).answering none) := by
  simp [exec, execSetbit, lineOfIndex_lineIndex, setBitOp]

/-- Settles O37: each row sets its line by its own meaning, and so does SETBIT of the line's index. -/
theorem portRowsSetTheirOwnLine : Obligations.PortRowsSetTheirOwnLine := by
  unfold Obligations.PortRowsSetTheirOwnLine
  intro v s
  have hset (l : Line) := (exec_setbit_lineIndex l v s).symm
  exact ⟨rfl, hset .segA, rfl, hset .segB, rfl, hset .segC, rfl, hset .segD, rfl, hset .segE, rfl, hset .segF,
    rfl, hset .segG, rfl, hset .segDP, rfl, hset .sel0, rfl, hset .sel1, rfl, hset .sel2, rfl, hset .sel3⟩

end Sys2Proof.Machine

/-! SUPPORT. The encoding: what each part of the decoder reads, what a row of the CHAR table is to its word, and the statements about
decode and encode. -/

namespace Sys2Proof.Machine

/-! ### The round trip, and the words written out from the tables -/

/-- Settles O46: row by row of the table. The rows with an operand whose byte has to be read back have their law of the round trip; the
bytes of every other row evaluate. -/
theorem decodingEncodedOperationsGivesThemBack : Obligations.DecodingEncodedOperationsGivesThemBack := by
  unfold Obligations.DecodingEncodedOperationsGivesThemBack
  intro i
  cases i with
  | charLow c => exact Laws.RoundTrip.charLow c
  | charHigh c => exact Laws.RoundTrip.charHigh c
  | portA v => exact Laws.RoundTrip.portA v
  | portB v => exact Laws.RoundTrip.portB v
  | portC v => exact Laws.RoundTrip.portC v
  | portD v => exact Laws.RoundTrip.portD v
  | portE v => exact Laws.RoundTrip.portE v
  | portF v => exact Laws.RoundTrip.portF v
  | portG v => exact Laws.RoundTrip.portG v
  | portDP v => exact Laws.RoundTrip.portDP v
  | portSel0 v => exact Laws.RoundTrip.portSel0 v
  | portSel1 v => exact Laws.RoundTrip.portSel1 v
  | portSel2 v => exact Laws.RoundTrip.portSel2 v
  | portSel3 v => exact Laws.RoundTrip.portSel3 v
  | portUnused k v => exact Laws.RoundTrip.portUnused k v
  | pad cs => exact Laws.RoundTrip.pad cs
  | keep4 cs => exact Laws.RoundTrip.keep4 cs
  | cellword cell => exact Laws.RoundTrip.cellword cell
  | setbit k v => exact Laws.RoundTrip.setbit k v
  | _ => exact fun _ => rfl

/-- Settles O51: each word is the encoding of its operation, and so the round trip reads it back. -/
theorem wordsWrittenFromTheTablesDecode : Obligations.WordsWrittenFromTheTablesDecode := by
  unfold Obligations.WordsWrittenFromTheTablesDecode
  have back := decodingEncodedOperationsGivesThemBack
  exact ⟨back (.charLow 31#5) rfl, back .char51 rfl, back .char7F rfl, back (.charHigh 127#7) rfl, back (.portDP true) rfl,
    back (.portSel3 false) rfl, back .tick6Segments rfl, back (.setbit 9#4 true) rfl, back (.fold [0x32#8, 0x2E#8]) rfl,
    back (.cellword ⟨0x6D#8, true⟩) rfl, back (.keep4 [⟨0x30#8, false⟩]) rfl⟩

/-! ### Port indices outside the domain -/

theorem portIndexInDomain_eq_false_iff {k : BitVec 4} : portIndexInDomain k = false ↔ 12 ≤ k.toNat := by
  simp [portIndexInDomain]

/-- An index that names no line stops SETBIT (30_encoding.md R64). -/
theorem exec_setbit_outside {k : BitVec 4} (hk : 12 ≤ k.toNat) (v : Bool) (s : State) :
    exec (.setbit k v) s = portIndexFault := by
  rw [exec, execSetbit, (lineOfIndex_none k).mpr hk]

/-- A SETBIT request is rejected at its index byte, before its value byte is read. -/
theorem decodeSetbit_outside {k : Byte} (hk : 12 ≤ k.toNat) (v : Byte) :
    decodeSetbit k v = .error (.setbitIndexReserved k) := by
  rw [decodeSetbit, if_neg (by omega)]

/-- Settles O38: PORT_UNUSED is the fault itself; SETBIT finds no line for the index, and the decoder stops at the index byte. -/
theorem portIndicesTwelveToFifteenStop : Obligations.PortIndicesTwelveToFifteenStop := by
  unfold Obligations.PortIndicesTwelveToFifteenStop
  refine ⟨fun _ _ _ => rfl, fun k v s hk => ⟨exec_setbit_outside hk v s, portIndexInDomain_eq_false_iff.mpr hk, ?_⟩⟩
  have hbyte : 12 ≤ (k.setWidth 8).toNat := by bv_omega
  exact decodeSetbit_outside hbyte (boolByte v)

/-! ### The rows of the CHAR table -/

/-- `bytes` are the request of the operation `i` of SEG7MUX (log 2). -/
def IsRequestOf (bytes : List Byte) (i : Instr) : Prop := i.wellFormed = true ∧ encode i = bytes

/-- `i` is the row of the CHAR table for the code `c`: its request holds `c`, and it runs as ENCODE of `c` (log 12). -/
def IsCharRow (c : Code) (i : Instr) : Prop := IsRequestOf [fmtChar, c] i ∧ ∀ s : State, exec i s = answerGlyph c s

theorem isCharRow_charLow {c : Code} (h : c.toNat < 32) : IsCharRow c (.charLow (c.setWidth 5)) := by
  have hc : (c.setWidth 5).setWidth 8 = c := by bv_omega
  exact ⟨⟨rfl, congrArg ([fmtChar, ·]) hc⟩, fun s => congrArg (answerGlyph · s) hc⟩

theorem isCharRow_charHigh {c : Code} (h : 128 ≤ c.toNat) : IsCharRow c (.charHigh (c.setWidth 7)) := by
  have hc : BitVec.ofNat 8 (128 + (c.setWidth 7).toNat) = c := by bv_omega
  exact ⟨⟨rfl, congrArg ([fmtChar, ·]) hc⟩, fun s => congrArg (answerGlyph · s) hc⟩

/-- The character decode gives every code its own row: the 96 rows of one code each by evaluation, the two of many codes by their
operand's width (30_encoding.md R71). -/
theorem isCharRow_decodeChar (c : Code) : IsCharRow c (decodeChar c) := by
  unfold decodeChar
  split
  case h_97 =>
    split
    · exact isCharRow_charLow ‹_›
    · -- The codes 32 to 127 have their own rows.
      have hhigh : 128 ≤ c.toNat := by grind
      exact isCharRow_charHigh hhigh
  all_goals
    next hc =>
      obtain ⟨-, rfl⟩ := BitVec.toNat_eq_nat.mp hc
      exact ⟨⟨rfl, rfl⟩, fun _ => rfl⟩

/-- A word of 8 bits is read as the CHAR request of that byte (log 3). -/
theorem tableBytes_eight (c : Code) : tableBytes 8 c.toNat = [fmtChar, c] := by
  simp [tableBytes]

/-- Settles O2: the operation is the row the character decode gives. -/
theorem everyCodeByteRunsAsEncode : Obligations.EveryCodeByteRunsAsEncode := by
  unfold Obligations.EveryCodeByteRunsAsEncode
  intro c
  have hdecode : decode [fmtChar, c] = .ok (decodeChar c) := rfl
  obtain ⟨⟨hwf, -⟩, hexec⟩ := isCharRow_decodeChar c
  exact ⟨decodeChar c, decodeTableWord_eq_some_iff.mpr (by rw [tableBytes_eight, hdecode]), hdecode, hwf,
    fun s => ⟨hexec s, hexec s⟩⟩

/-! ### What the parts of the decoder read -/

theorem decodeBool_eq_ok_iff {b : Byte} {v : Bool} : decodeBool b = .ok v ↔ b = boolByte v := by
  constructor
  · intro h
    unfold decodeBool at h
    split at h
    case h_3 => cases h
    all_goals
      next hb =>
        cases h
        exact (BitVec.toNat_eq_nat.mp hb).2
  · rintro rfl
    exact Laws.RoundTrip.decodeBool_boolByte v

/-- Cells are read from their own bytes only; the recursion is the decoder's, two bytes at a time. -/
theorem cellsBytes_of_decodeCells {bs : List Byte} {cs : List Cell} (h : decodeCells bs = .ok cs) : cellsBytes cs = bs := by
  fun_induction decodeCells bs generalizing cs with
  | case1 => cases h; rfl
  | case2 => cases h
  | case3 => cases h
  | case4 => cases h
  | case5 p d rest dot hdot cs hcs ih =>
    cases h
    simp [cellsBytes, cellBytes, ih hcs, decodeBool_eq_ok_iff.mp hdot]

theorem noOperands_eq_ok_iff {i j : Instr} {bs : List Byte} : noOperands i bs = .ok j ↔ bs = [] ∧ i = j := by
  cases bs <;> simp [noOperands]

theorem oneOperand_eq_ok_iff {f : Byte → Except Reject Instr} {bs : List Byte} {i : Instr} :
    oneOperand f bs = .ok i ↔ ∃ a, bs = [a] ∧ f a = .ok i := by
  unfold oneOperand
  split <;> simp_all

theorem twoOperands_eq_ok_iff {f : Byte → Byte → Except Reject Instr} {bs : List Byte} {i : Instr} :
    twoOperands f bs = .ok i ↔ ∃ a b, bs = [a, b] ∧ f a b = .ok i := by
  unfold twoOperands
  split <;> simp_all

theorem withBool_eq_ok_iff {b : Byte} {f : Bool → Except Reject Instr} {i : Instr} :
    withBool b f = .ok i ↔ ∃ v, b = boolByte v ∧ f v = .ok i := by
  simp only [← decodeBool_eq_ok_iff, withBool]
  cases decodeBool b <;> simp

theorem withCells_eq_ok_iff {bs : List Byte} {f : List Cell → Instr} {i : Instr} :
    withCells bs f = .ok i ↔ ∃ cs, cellsBytes cs = bs ∧ f cs = i := by
  constructor
  · unfold withCells
    split
    · rintro ⟨⟩
    · rintro ⟨⟩; exact ⟨_, cellsBytes_of_decodeCells ‹_›, rfl⟩
  · rintro ⟨cs, rfl, rfl⟩
    exact Laws.RoundTrip.withCells_cellsBytes cs f

/-! ### Every request the decoder reads is the request of what it gives -/

theorem isRequestOf_of_decodePort {k : Byte} {v : Bool} {i : Instr} (h : decodePort k v = .ok i) :
    IsRequestOf [fmtPort, k, boolByte v] i := by
  unfold decodePort at h
  split at h
  case h_13 =>
    split at h
    · cases h
      have hunused : 12 ≤ k.toNat := by grind
      have hk : BitVec.ofNat 8 (12 + (k.setWidth 2).toNat) = k := by bv_omega
      exact ⟨rfl, congrArg ([fmtPort, ·, boolByte v]) hk⟩
    · cases h
  all_goals
    next hk =>
      cases h
      obtain ⟨-, rfl⟩ := BitVec.toNat_eq_nat.mp hk
      exact ⟨rfl, rfl⟩

theorem isRequestOf_of_decodeStep {n : Byte} {i : Instr} (h : decodeStep n = .ok i) : IsRequestOf [fmtStep, n] i := by
  unfold decodeStep at h
  split at h
  case h_9 => cases h
  all_goals
    next hn =>
      cases h
      obtain ⟨-, rfl⟩ := BitVec.toNat_eq_nat.mp hn
      exact ⟨rfl, rfl⟩

theorem isRequestOf_of_decodeSetbit {k v : Byte} {i : Instr} (h : decodeSetbit k v = .ok i) :
    IsRequestOf [fmtOperation, 8#8, k, v] i := by
  by_cases hk : k.toNat < 12
  · rw [decodeSetbit, if_pos hk, withBool_eq_ok_iff] at h
    obtain ⟨b, rfl, ⟨⟩⟩ := h
    have hdomain : (k.setWidth 4).toNat < 12 := by bv_omega
    have hbyte : (k.setWidth 4).setWidth 8 = k := by bv_omega
    exact ⟨decide_eq_true hdomain, congrArg ([fmtOperation, 8#8, ·, boolByte b]) hbyte⟩
  · rw [decodeSetbit_outside (by omega)] at h
    cases h

theorem isRequestOf_of_decodeOperation {op : Byte} {operands : List Byte} {i : Instr}
    (h : decodeOperation op operands = .ok i) : IsRequestOf (fmtOperation :: op :: operands) i := by
  unfold decodeOperation at h
  split at h
  case h_15 => cases h
  all_goals obtain ⟨-, rfl⟩ := BitVec.toNat_eq_nat.mp ‹op.toNat = _›
  -- ENCODE and PERMUTE: one byte.
  case h_1 | h_7 =>
    obtain ⟨a, rfl, ⟨⟩⟩ := oneOperand_eq_ok_iff.mp h
    exact ⟨rfl, rfl⟩
  -- FOLD and FORMAT: the operand bytes are the text.
  case h_2 | h_5 =>
    cases h
    exact ⟨rfl, rfl⟩
  -- PAD and KEEP4: cells.
  case h_3 | h_4 =>
    obtain ⟨cs, rfl, rfl⟩ := withCells_eq_ok_iff.mp h
    exact ⟨rfl, rfl⟩
  -- CELLWORD: a pattern and a dot.
  case h_6 =>
    obtain ⟨p, d, rfl, hd⟩ := twoOperands_eq_ok_iff.mp h
    obtain ⟨dot, rfl, ⟨⟩⟩ := withBool_eq_ok_iff.mp hd
    exact ⟨rfl, rfl⟩
  -- SETBIT: an index and a value.
  case h_9 =>
    obtain ⟨k, v, rfl, hkv⟩ := twoOperands_eq_ok_iff.mp h
    exact isRequestOf_of_decodeSetbit hkv
  -- The operations without operands.
  all_goals
    obtain ⟨rfl, rfl⟩ := noOperands_eq_ok_iff.mp h
    exact ⟨rfl, rfl⟩

theorem isRequestOf_of_decode {bytes : List Byte} {i : Instr} (h : decode bytes = .ok i) : IsRequestOf bytes i := by
  unfold decode at h
  split at h
  · cases h
  · cases h
  next fmt word operands =>
    split at h
    next hfmt =>
      obtain ⟨-, rfl⟩ := BitVec.toNat_eq_nat.mp hfmt
      obtain ⟨rfl, rfl⟩ := noOperands_eq_ok_iff.mp h
      exact (isCharRow_decodeChar word).1
    next hfmt =>
      obtain ⟨-, rfl⟩ := BitVec.toNat_eq_nat.mp hfmt
      obtain ⟨b, rfl, hb⟩ := oneOperand_eq_ok_iff.mp h
      obtain ⟨v, rfl, hv⟩ := withBool_eq_ok_iff.mp hb
      exact isRequestOf_of_decodePort hv
    next hfmt =>
      obtain ⟨-, rfl⟩ := BitVec.toNat_eq_nat.mp hfmt
      split at h
      · cases h
      next hstep =>
        obtain ⟨rfl, rfl⟩ := noOperands_eq_ok_iff.mp h
        exact isRequestOf_of_decodeStep hstep
    next hfmt =>
      obtain ⟨-, rfl⟩ := BitVec.toNat_eq_nat.mp hfmt
      exact isRequestOf_of_decodeOperation h
    next => cases h

/-- Settles O47: part by part of the decoder, the operands an operation is given are read from its own bytes. -/
theorem decodedRequestsAreWellFormed : Obligations.DecodedRequestsAreWellFormed := by
  unfold Obligations.DecodedRequestsAreWellFormed
  exact fun _ _ h => isRequestOf_of_decode h

end Sys2Proof.Machine

/-! SUPPORT. The segment encoder: what ENCODE reads from the ROM, what a row of the CHAR table answers, and the statements about glyphs
and about the combinational operations. -/

namespace Sys2Proof.Machine

/-! ### ENCODE and the ROM -/

/-- Inside its domain ENCODE is the ROM read at `c - 32` (40_segment_encoder.md R81). -/
theorem encodeChar_eq_romRead {c : Code} {a : Fin 95} (ha : a.val + 32 = c.toNat) : encodeChar c = romRead a := by
  have hdomain : 32 ≤ c.toNat ∧ c.toNat ≤ 126 := by omega
  have haddr : c.toNat - 32 = a.val := by omega
  simp [encodeChar, hdomain, haddr]

/-- An operation that runs as ENCODE of a code answers that code's pattern. -/
theorem answers_of_answerGlyph {i : Instr} {c : Code} {p : Pattern} (hexec : ∀ s : State, exec i s = answerGlyph c s)
    (hp : encodeChar c = p) : Answers i (.pattern p) := by
  subst hp
  exact hexec

theorem answers_encode {c : Code} {p : Pattern} (hp : encodeChar c = p) : Answers (.encode c) (.pattern p) :=
  answers_of_answerGlyph (fun _ => rfl) hp

/-- Settles O1: the ROM read inside the domain, the blank pattern outside it. -/
theorem encodeReadsTheRomInsideItsDomain : Obligations.EncodeReadsTheRomInsideItsDomain := by
  unfold Obligations.EncodeReadsTheRomInsideItsDomain
  exact fun c => ⟨fun _ ha => answers_encode (encodeChar_eq_romRead ha), fun hc => answers_encode (encodeChar_outside c hc)⟩

/-- An operation that runs as ENCODE of a code outside the ROM answers the blank pattern (40_segment_encoder.md R89). -/
theorem answers_blank_of_answerGlyph {i : Instr} {c : Code} (hexec : ∀ s : State, exec i s = answerGlyph c s)
    (hc : c.toNat < 32 ∨ 126 < c.toNat) : Answers i (.pattern 0x00#8) :=
  answers_of_answerGlyph hexec (encodeChar_outside c (by omega))

/-- Settles O7: each row runs as ENCODE of codes on one side of the ROM. -/
theorem codesOutsideTheRomAreBlank : Obligations.CodesOutsideTheRomAreBlank := by
  unfold Obligations.CodesOutsideTheRomAreBlank
  refine ⟨fun c => ?_, ?_, fun c => ?_, fun c hc => ?_⟩
  · have hlow : (c.setWidth 8).toNat < 32 := by bv_omega
    exact answers_blank_of_answerGlyph (fun _ => rfl) (.inl hlow)
  · exact answers_blank_of_answerGlyph (c := 0x7F#8) (fun _ => rfl) (.inr (by decide))
  · have hhigh : 126 < (BitVec.ofNat 8 (128 + c.toNat)).toNat := by bv_omega
    exact answers_blank_of_answerGlyph (fun _ => rfl) (.inr hhigh)
  · exact answers_blank_of_answerGlyph (fun _ => rfl) hc

/-! ### The glyph tables -/

/-- A glyph is two readings of the tables: the row the character decode gives the code, and the pattern the ROM holds for it. -/
theorem glyphIs_of_tables {i : Instr} {c : Code} {p : Pattern} (hrow : decodeChar c = i) (hp : encodeChar c = p) :
    GlyphIs i c p := by
  subst hrow
  exact ⟨rfl, answers_of_answerGlyph (isCharRow_decodeChar c).2 hp, answers_encode hp⟩

/-- The code at place `k` of the upper-case block reads that place of the block (40_segment_encoder.md R84, R85). -/
theorem encodeChar_upper : ∀ k : Fin 26, encodeChar (BitVec.ofNat 8 (0x41 + k.val)) = romUpper[k.val]'k.isLt := by
  decide

/-- The code at place `k` of the lower-case block reads that place of the block (40_segment_encoder.md R86, R87). -/
theorem encodeChar_lower : ∀ k : Fin 26, encodeChar (BitVec.ofNat 8 (0x61 + k.val)) = romLower[k.val]'k.isLt := by
  decide

/-- The one upper-case pattern with the DP bit is that of place 16, `Q` (40_segment_encoder.md R85). -/
theorem romUpper_decimalPoint : ∀ k : Fin 26, (romUpper[k.val]'k.isLt).getLsbD 7 = true ↔ k = 16 := by
  decide

theorem romLower_decimalPoint : ∀ k : Fin 26, (romLower[k.val]'k.isLt).getLsbD 7 = false := by
  decide

/-- A code in a block of `n` codes from `b` on, by its place in the block. -/
theorem exists_place_in_block {c : Code} {b n : Nat} (hlo : b ≤ c.toNat) (hhi : c.toNat < b + n) :
    ∃ k : Fin n, c = BitVec.ofNat 8 (b + k.val) := by
  refine ⟨⟨c.toNat - b, by omega⟩, ?_⟩
  rw [Nat.add_sub_cancel' hlo, BitVec.ofNat_toNat, BitVec.setWidth_eq]

/-- Among the letters only `Q` has the DP bit in its pattern (40_segment_encoder.md R85). -/
theorem letter_decimalPoint_iff {c : Code} (hc : (0x41 ≤ c.toNat ∧ c.toNat ≤ 0x5A) ∨ (0x61 ≤ c.toNat ∧ c.toNat ≤ 0x7A)) :
    (encodeChar c).getLsbD 7 = true ↔ c = 0x51#8 := by
  obtain ⟨hlo, hhi⟩ | ⟨hlo, hhi⟩ := hc
  · obtain ⟨k, rfl⟩ := exists_place_in_block (n := 26) hlo (by omega)
    have hplace : k = 16 ↔ BitVec.ofNat 8 (0x41 + k.val) = 0x51#8 := by revert k; decide
    rw [encodeChar_upper, romUpper_decimalPoint, hplace]
  · obtain ⟨k, rfl⟩ := exists_place_in_block (n := 26) hlo (by omega)
    have hne : BitVec.ofNat 8 (0x61 + k.val) ≠ 0x51#8 := by bv_omega
    rw [encodeChar_lower, romLower_decimalPoint]
    exact iff_of_false Bool.false_ne_true hne

/-- Settles O3: the rows and patterns as the tables hold them. -/
theorem spaceDashDotAndDigitGlyphs : Obligations.SpaceDashDotAndDigitGlyphs := by
  unfold Obligations.SpaceDashDotAndDigitGlyphs
  repeat refine ⟨glyphIs_of_tables rfl rfl, ?_⟩
  exact glyphIs_of_tables rfl rfl

/-- Settles O4: the rows and patterns as the tables hold them, and the DP bit block by block. -/
theorem upperCaseAndAtGlyphs : Obligations.UpperCaseAndAtGlyphs := by
  unfold Obligations.UpperCaseAndAtGlyphs
  repeat refine ⟨glyphIs_of_tables rfl rfl, ?_⟩
  exact fun _ => letter_decimalPoint_iff

/-- Settles O5: the rows and patterns as the tables hold them. -/
theorem lowerCaseGlyphs : Obligations.LowerCaseGlyphs := by
  unfold Obligations.LowerCaseGlyphs
  repeat refine ⟨glyphIs_of_tables rfl rfl, ?_⟩
  exact glyphIs_of_tables rfl rfl

/-- Settles O6: the rows as the tables hold them; the ROM holds the blank pattern or the entry of SYMROM itself, whatever that is. -/
theorem symbolGlyphs : Obligations.SymbolGlyphs := by
  unfold Obligations.SymbolGlyphs
  repeat refine ⟨glyphIs_of_tables rfl rfl, ?_⟩
  exact glyphIs_of_tables rfl rfl

/-! ### The combinational operations -/

/-- A CHAR request runs as ENCODE of its code, and so only answers. -/
theorem answers_of_decode_char {word : Byte} {operands : List Byte} {i : Instr}
    (h : decode (fmtChar :: word :: operands) = .ok i) : ∃ a, Answers i a := by
  obtain ⟨-, rfl⟩ : operands = [] ∧ decodeChar word = i := noOperands_eq_ok_iff.mp h
  exact ⟨_, answers_of_answerGlyph (isCharRow_decodeChar word).2 rfl⟩

/-- The operations 0 to 6 (ENCODE, FOLD, PAD, KEEP4, FORMAT, CELLWORD, PERMUTE) only answer, whatever their operands. -/
theorem answers_of_decodeOperation {op : Byte} {operands : List Byte} {i : Instr} (hop : op.toNat < 7)
    (h : decodeOperation op operands = .ok i) : ∃ a, Answers i a := by
  unfold decodeOperation at h
  split at h
  -- ENCODE and PERMUTE: one byte.
  case h_1 | h_7 =>
    obtain ⟨_, -, ⟨⟩⟩ := oneOperand_eq_ok_iff.mp h
    exact ⟨_, fun _ => rfl⟩
  -- FOLD and FORMAT: the operand bytes are the text.
  case h_2 | h_5 =>
    cases h
    exact ⟨_, fun _ => rfl⟩
  -- PAD and KEEP4: cells.
  case h_3 | h_4 =>
    obtain ⟨_, -, rfl⟩ := withCells_eq_ok_iff.mp h
    exact ⟨_, fun _ => rfl⟩
  -- CELLWORD: a pattern and a dot.
  case h_6 =>
    obtain ⟨_, _, -, hdot⟩ := twoOperands_eq_ok_iff.mp h
    obtain ⟨_, -, ⟨⟩⟩ := withBool_eq_ok_iff.mp hdot
    exact ⟨_, fun _ => rfl⟩
  case h_15 => cases h
  -- The operations 7 to 13.
  all_goals omega

/-- Settles O56: by the two formats the request can have. -/
theorem foldAndFormatLeaveTheMachineAlone : Obligations.FoldAndFormatLeaveTheMachineAlone := by
  unfold Obligations.FoldAndFormatLeaveTheMachineAlone
  intro i bytes h hbytes s
  suffices hi : ∃ a, Answers i a by
    obtain ⟨a, ha⟩ := hi
    exact ⟨a, ha s⟩
  match bytes with
  | [] => cases h
  | [_] => cases h
  | fmt :: word :: operands =>
    obtain hchar | ⟨hoperation, n, hword⟩ := hbytes
    · obtain rfl : fmt = fmtChar := Option.some.inj hchar
      exact answers_of_decode_char h
    · obtain rfl : fmt = fmtOperation := Option.some.inj hoperation
      obtain rfl : word = BitVec.ofNat 8 n.val := Option.some.inj hword
      have hop : (BitVec.ofNat 8 n.val).toNat < 7 := by bv_omega
      exact answers_of_decodeOperation hop h

end Sys2Proof.Machine

/-! SUPPORT. The frame formatter: what FOLD does with one more code, with a run of dots and behind cells that are already there, how PAD
and KEEP4 cut the cells to four, and the statements about FOLD, PAD, KEEP4 and FORMAT. -/

namespace Sys2Proof.Machine

/-! ### What the four operations answer -/

theorem answers_fold (t : List Code) : Answers (.fold t) (.cells (fold t)) := fun _ => rfl

theorem answers_pad (cs : List Cell) : Answers (.pad cs) (.cells (pad cs)) := fun _ => rfl

theorem answers_keep4 (cs : List Cell) : Answers (.keep4 cs) (.frame (keep4 cs)) := fun _ => rfl

theorem answers_format (t : List Code) : Answers (.format t) (.frame (format t)) := fun _ => rfl

/-! ### FOLD, code by code -/

theorem dotLast_cons {cs : List Cell} (h : cs ≠ []) (c : Cell) : dotLast (c :: cs) = c :: dotLast cs := by
  cases cs with
  | nil => contradiction
  | cons d cs => rfl

theorem dotLast_append {B : List Cell} (hB : B ≠ []) (A : List Cell) : dotLast (A ++ B) = A ++ dotLast B := by
  induction A with
  | nil => rfl
  | cons c A ih => rw [List.cons_append, dotLast_cons (List.append_ne_nil_of_right_ne_nil A hB), ih, List.cons_append]

@[simp] theorem dotLast_concat (cs : List Cell) (x : Cell) : dotLast (cs ++ [x]) = cs ++ [{ x with dot := true }] :=
  dotLast_append (List.cons_ne_nil x []) cs

@[simp] theorem length_dotLast (cs : List Cell) : (dotLast cs).length = cs.length := by
  induction cs using List.reverseRecOn with
  | nil => rfl
  | append_singleton cs x _ => simp

@[simp] theorem foldCode_dot (cs : List Cell) : foldCode cs 0x2E#8 = dotLast cs := by
  simp [foldCode, Config.dotCode]

theorem foldCode_char {c : Code} (hc : c ≠ 0x2E#8) (cs : List Cell) : foldCode cs c = cs ++ [⟨encodeChar c, false⟩] := by
  simp [foldCode, Config.dotCode, hc]

theorem fold_concat (t : List Code) (c : Code) : fold (t ++ [c]) = foldCode (fold t) c := by
  simp [fold]

theorem length_fold (t : List Code) : (fold t).length = (t.filter (fun c => c ≠ 0x2E#8)).length := by
  induction t using List.reverseRecOn with
  | nil => rfl
  | append_singleton t c ih =>
    by_cases hc : c = 0x2E#8
    · simp [fold_concat, hc, ih]
    · simp [fold_concat, foldCode_char hc, hc, ih]

/-- Settles O8: FOLD's last round is a dot, which the last cell takes, or a character, which brings its own cell. -/
theorem foldBuildsOneCellPerCharacter : Obligations.FoldBuildsOneCellPerCharacter := by
  unfold Obligations.FoldBuildsOneCellPerCharacter
  refine ⟨answers_fold, rfl, fun t c hc => ?_, fun t ht => ?_, fun t cs x ht => ?_, length_fold⟩
  · rw [fold_concat, foldCode_char hc]
  · rw [fold_concat, ht, foldCode_dot, dotLast]
  · rw [fold_concat, ht, foldCode_dot, dotLast_concat]

/-! ### FOLD behind cells that are already there -/

/-- Where a dot changes nothing (no cell yet, or a last cell that has its dot), a run of dots changes nothing. -/
theorem foldl_foldCode_dots {cs : List Cell} (h : dotLast cs = cs) (m : Nat) :
    (List.replicate m 0x2E#8).foldl foldCode cs = cs := by
  induction m with
  | zero => rfl
  | succ m ih => simp [List.replicate_succ, h, ih]

/-- A character and its dots: one cell, with its dot when there is at least one (D11). -/
theorem foldl_foldCode_char_dots {c : Code} (hc : c ≠ 0x2E#8) (m : Nat) (cs : List Cell) :
    (c :: List.replicate m 0x2E#8).foldl foldCode cs = cs ++ [⟨encodeChar c, decide (0 < m)⟩] := by
  rw [List.foldl_cons, foldCode_char hc]
  cases m with
  | zero => rfl
  | succ m => simp [List.replicate_succ, foldl_foldCode_dots]

theorem foldl_foldCode_items {items : List (Code × Nat)} (h : ∀ x ∈ items, x.1 ≠ 0x2E#8) (cs : List Cell) :
    (items.flatMap (fun x => x.1 :: List.replicate x.2 0x2E#8)).foldl foldCode cs =
      cs ++ items.map (fun x => ⟨encodeChar x.1, decide (0 < x.2)⟩) := by
  induction items generalizing cs with
  | nil => simp
  | cons x items ih =>
    obtain ⟨hx, hitems⟩ := List.forall_mem_cons.mp h
    rw [List.flatMap_cons, List.foldl_append, foldl_foldCode_char_dots hx, ih hitems, List.append_assoc, List.map_cons,
      List.singleton_append]

/-- Settles O9: the leading dots find no cell, and then each character with its dots brings one cell. -/
theorem foldOfCharactersWithTheirDots : Obligations.FoldOfCharactersWithTheirDots := by
  unfold Obligations.FoldOfCharactersWithTheirDots
  intro m items h
  rw [fold, List.foldl_append, foldl_foldCode_dots rfl, foldl_foldCode_items h, List.nil_append]

theorem fold_of_no_dots {t : List Code} (h : ∀ c ∈ t, c ≠ 0x2E#8) : fold t = t.map (fun c => ⟨encodeChar c, false⟩) := by
  simpa [List.flatMap_map, Function.comp_def] using
    foldOfCharactersWithTheirDots 0 (t.map fun c => (c, 0)) (by simpa using h)

theorem foldCode_append {B : List Cell} (hB : B ≠ []) (A : List Cell) (c : Code) :
    foldCode (A ++ B) c = A ++ foldCode B c := by
  by_cases hc : c = 0x2E#8
  · rw [hc, foldCode_dot, foldCode_dot, dotLast_append hB]
  · rw [foldCode_char hc, foldCode_char hc, List.append_assoc]

theorem foldCode_ne_nil {B : List Cell} (hB : B ≠ []) (c : Code) : foldCode B c ≠ [] := by
  by_cases hc : c = 0x2E#8
  · simpa [hc, ← List.length_eq_zero_iff] using hB
  · simp [foldCode_char hc]

/-- FOLD never reaches behind the last cell it has. -/
theorem foldl_foldCode_append {B : List Cell} (hB : B ≠ []) (A : List Cell) (t : List Code) :
    t.foldl foldCode (A ++ B) = A ++ t.foldl foldCode B := by
  induction t generalizing B with
  | nil => rfl
  | cons c t ih => rw [List.foldl_cons, foldCode_append hB, ih (foldCode_ne_nil hB c), List.foldl_cons]

/-- From a character on, a text folds as it does alone, whatever cells there are. -/
theorem foldl_foldCode_of_char {c : Code} (hc : c ≠ 0x2E#8) (A : List Cell) (u : List Code) :
    (c :: u).foldl foldCode A = A ++ fold (c :: u) := by
  rw [fold, List.foldl_cons, List.foldl_cons, foldCode_char hc, foldCode_char hc, List.nil_append,
    foldl_foldCode_append (List.cons_ne_nil _ _)]

theorem fold_dot_cons (t : List Code) : fold (0x2E#8 :: t) = fold t := rfl

/-- Where a dot changes nothing, every text folds as it does alone: its leading dots are lost either way. -/
theorem foldl_foldCode_of_dotLast {A : List Cell} (hA : dotLast A = A) (t : List Code) : t.foldl foldCode A = A ++ fold t := by
  induction t with
  | nil => simp [fold]
  | cons c t ih =>
    by_cases hc : c = 0x2E#8
    · rw [hc, List.foldl_cons, foldCode_dot, hA, ih, fold_dot_cons]
    · exact foldl_foldCode_of_char hc A t

/-! ### PAD and KEEP4 -/

theorem padCell_eq : padCell = ⟨0x00#8, false⟩ := rfl

theorem pad_of_lt {cs : List Cell} (h : cs.length < 4) : pad cs = List.replicate (4 - cs.length) padCell ++ cs := if_pos h

theorem pad_of_le {cs : List Cell} (h : 4 ≤ cs.length) : pad cs = cs := if_neg (Nat.not_lt.mpr h)

/-- Both branches of PAD are one filling, which is empty from four cells on. -/
theorem pad_eq (cs : List Cell) : pad cs = List.replicate (4 - cs.length) padCell ++ cs := by
  obtain h | h := Nat.lt_or_ge cs.length 4
  · exact pad_of_lt h
  · rw [pad_of_le h, Nat.sub_eq_zero_of_le h, List.replicate_zero, List.nil_append]

theorem length_pad (cs : List Cell) : (pad cs).length = max 4 cs.length := by
  rw [pad_eq, List.length_append, List.length_replicate]
  omega

theorem four_le_length_pad (cs : List Cell) : 4 ≤ (pad cs).length := by
  rw [length_pad]
  exact Nat.le_max_left _ _

/-- Where blanks and cells together are at most four, the blanks are those PAD would put there. -/
theorem pad_replicate_append {n : Nat} {cs : List Cell} (h : n + cs.length ≤ 4) :
    pad (List.replicate n padCell ++ cs) = pad cs := by
  have hfill : 4 - (n + cs.length) + n = 4 - cs.length := by omega
  rw [pad_eq, pad_eq, ← List.append_assoc, List.length_append, List.length_replicate, List.replicate_append_replicate, hfill]

/-- Settles O10: the filling is of blank cells. -/
theorem padFillsBlanksAtTheLeft : Obligations.PadFillsBlanksAtTheLeft := by
  unfold Obligations.PadFillsBlanksAtTheLeft
  refine fun cs => ⟨fun h => ?_, fun h => ?_⟩
  · rw [← padCell_eq, ← pad_of_lt h]
    exact answers_pad cs
  · simpa only [pad_of_le h] using answers_pad cs

/-- Settles O11. -/
theorem keep4KeepsTheFirstFourCells : Obligations.Keep4KeepsTheFirstFourCells := by
  unfold Obligations.Keep4KeepsTheFirstFourCells
  exact fun _ _ _ _ _ => answers_keep4 _

/-- Settles O12: the frame is the free one (log 8). -/
theorem keep4OfShortSequencesCompletes : Obligations.Keep4OfShortSequencesCompletes := by
  unfold Obligations.Keep4OfShortSequencesCompletes
  exact fun cs _ => ⟨keep4 cs, answers_keep4 cs⟩

theorem cells_keep4 {cs : List Cell} (h : 4 ≤ cs.length) : (keep4 cs).cells = cs.take 4 := by
  match cs with
  | _ :: _ :: _ :: _ :: _ => rfl

theorem cells_keep4_pad {cs : List Cell} (h : cs.length ≤ 4) : (keep4 (pad cs)).cells = pad cs := by
  rw [cells_keep4 (four_le_length_pad cs)]
  exact List.take_of_length_le (by rw [length_pad, Nat.max_eq_left h])

theorem keep4_append {A : List Cell} (h : 4 ≤ A.length) (B : List Cell) : keep4 (A ++ B) = keep4 A := by
  match A with
  | _ :: _ :: _ :: _ :: _ => rfl

/-! ### FORMAT -/

theorem cells_format (t : List Code) : (format t).cells = (pad (fold t)).take 4 :=
  cells_keep4 (four_le_length_pad _)

/-- Settles O13: PAD gives KEEP4 its four cells. -/
theorem formatComposesFoldPadKeep : Obligations.FormatComposesFoldPadKeep := by
  unfold Obligations.FormatComposesFoldPadKeep
  exact fun t => ⟨format t, answers_format t, cells_format t, rfl, four_le_length_pad _⟩

/-- Settles O14: from the fifth character on FOLD only puts cells behind the four that KEEP4 takes. -/
theorem formatDependsOnTheFirstFourCharacters : Obligations.FormatDependsOnTheFirstFourCharacters := by
  unfold Obligations.FormatDependsOnTheFirstFourCharacters
  intro t u c ht hc
  rw [← length_fold] at ht
  have hfold : fold (t ++ c :: u) = fold t ++ fold (c :: u) := by
    rw [fold, List.foldl_append, ← fold, foldl_foldCode_of_char hc]
  have hlong : 4 ≤ (fold t ++ fold (c :: u)).length := ht.trans (by simp)
  rw [format, format, hfold, pad_of_le hlong, pad_of_le ht, keep4_append ht]

/-- Settles O15: the cells are those of the codes, one each, and PAD and KEEP4 count them. -/
theorem formatOfTextWithoutDots : Obligations.FormatOfTextWithoutDots := by
  unfold Obligations.FormatOfTextWithoutDots
  intro t ht
  rw [cells_format, fold_of_no_dots ht]
  refine ⟨fun h => ?_, fun h => ?_⟩
  · rw [pad_of_lt (by simpa using h), List.length_map, padCell_eq]
    exact List.take_of_length_le (by simp; omega)
  · rw [pad_of_le (by simpa using h), List.map_take]

/-! ### The prose reading of the padding -/

theorem proseFormat_of_long {t : List Code} (h : 4 ≤ t.length) : proseFormat t = format t := by
  rw [proseFormat, Nat.sub_eq_zero_of_le h, List.replicate_zero, List.nil_append, format]

theorem padCode_ne_dot : Config.padCode ≠ 0x2E#8 := by decide

/-- The padding characters fold to blank cells before the text's first code acts. -/
theorem fold_padded (n : Nat) (t : List Code) :
    fold (List.replicate n Config.padCode ++ t) = t.foldl foldCode (List.replicate n padCell) := by
  have hblank : fold (List.replicate n Config.padCode) = List.replicate n padCell := by
    rw [fold_of_no_dots fun c hc => List.eq_of_mem_replicate hc ▸ padCode_ne_dot, List.map_replicate, padCell]
  rw [fold, List.foldl_append, ← fold, hblank]

theorem length_fold_le (t : List Code) : (fold t).length ≤ t.length := by
  rw [length_fold]
  exact List.length_filter_le _ _

/-- The blanks at the left of a short text that begins with a character stay as they are, and are those PAD puts there. -/
theorem proseFormat_of_char {c : Code} {u : List Code} (hc : c ≠ 0x2E#8) (hshort : (c :: u).length < 4) :
    proseFormat (c :: u) = format (c :: u) := by
  have hfits : 4 - (c :: u).length + (fold (c :: u)).length ≤ 4 := by
    have := length_fold_le (c :: u)
    omega
  rw [proseFormat, fold_padded, foldl_foldCode_of_char hc, pad_replicate_append hfits, format]

/-- PAD has no dotted cell to put at the left of a short sequence. -/
theorem pad_append_ne_of_dot {A B : List Cell} {x : Cell} (hx : x ∈ A) (hdot : x.dot = true) : pad (A ++ B) ≠ pad B := by
  intro h
  rw [pad_eq, pad_eq B, ← List.append_assoc] at h
  have hfill : x ∈ List.replicate (4 - B.length) padCell := List.append_cancel_right h ▸ List.mem_append_right _ hx
  rw [List.eq_of_mem_replicate hfill] at hdot
  exact Bool.false_ne_true hdot

/-- A dot right behind the padding characters goes to the last blank (41_frame_formatter.md R106). -/
theorem fold_padded_dot (n : Nat) (u : List Code) :
    fold (List.replicate (n + 1) Config.padCode ++ 0x2E#8 :: u) = List.replicate n padCell ++ [⟨0x00#8, true⟩] ++ fold u := by
  rw [fold_padded, List.foldl_cons, List.replicate_succ', foldCode_dot, dotLast_concat,
    foldl_foldCode_of_dotLast (dotLast_concat _ _), padCell_eq]

/-- The two frames of a short text that begins with a dot differ in the dotted blank: FORMAT's four cells are the text's own and PAD's. -/
theorem proseFormat_ne_of_dot {u : List Code} (hshort : (0x2E#8 :: u).length < 4) :
    proseFormat (0x2E#8 :: u) ≠ format (0x2E#8 :: u) := by
  intro h
  obtain ⟨n, hn⟩ : ∃ n, 4 - (0x2E#8 :: u).length = n + 1 := Nat.exists_eq_add_one.mpr (by omega)
  have hlen : (fold u).length ≤ u.length := length_fold_le u
  have hcells := congrArg Frame.cells h
  rw [proseFormat, hn, fold_padded_dot, format, fold_dot_cons, cells_keep4_pad (by simp at hn ⊢; omega),
    cells_keep4_pad (by simp at hshort; omega)] at hcells
  exact pad_append_ne_of_dot (x := ⟨0x00#8, true⟩) (by simp) rfl hcells

/-- Settles O16: by the text's first code. -/
theorem proseReadingDiffersOnOneFamily : Obligations.ProseReadingDiffersOnOneFamily := by
  unfold Obligations.ProseReadingDiffersOnOneFamily
  intro t
  refine ⟨fun h => ?_, fun hshort hdot => ?_⟩
  · obtain hshort | hlong := Nat.lt_or_ge t.length 4
    · match t with
      | [] => rfl
      | c :: u => exact proseFormat_of_char (by simpa using h.resolve_left (Nat.not_le.mpr hshort)) hshort
    · exact proseFormat_of_long hlong
  · obtain ⟨u, rfl⟩ := List.head?_eq_some_iff.mp hdot
    exact proseFormat_ne_of_dot hshort

end Sys2Proof.Machine

/-! SUPPORT. The multiplex scheduler: the digit a tick leaves on the lines, what each step does when it runs alone, whole ticks, and
the select lines along a list of transactions (42_multiplex_scheduler.md). -/

namespace Sys2Proof.Machine

/-! ### The port word of a digit -/

theorem exists_lineIndex {k : Nat} (hk : k < 12) : ∃ l, lineIndex l = k :=
  have hall : ∀ k : Fin 12, lineIndex (allLines[k.val]'k.isLt) = k := by decide
  ⟨_, hall ⟨k, hk⟩⟩

theorem mem_segmentLines_iff {l : Line} : l ∈ segmentLines ↔ lineIndex l < 8 := by
  cases l <;> decide

theorem selectLine_notMem_segmentLines (i : Cursor) : selectLine i ∉ segmentLines := by
  simp [mem_segmentLines_iff, lineIndex_selectLine]

theorem selectLine_inj {i j : Cursor} : selectLine i = selectLine j ↔ i = j := by
  revert i j; decide

/-- The lines `p` with the segment lines written for the pattern `e` (42_multiplex_scheduler.md R129). -/
def withSegments (p : Lines) (e : Pattern) : Lines :=
  segmentLines.foldl (fun q l => setLine q l (permute e (lineIndex l))) p

theorem getLine_withSegments (p : Lines) (e : Pattern) (l : Line) :
    getLine (withSegments p e) l = if l ∈ segmentLines then permute e (lineIndex l) else getLine p l := by
  cases l <;> rfl

theorem linesWord_withSegments_bit (p : Lines) (e : Pattern) (k : Nat) :
    (linesWord (withSegments p e)).getLsbD k = if k < 8 then permute e k else (linesWord p).getLsbD k := by
  obtain hk | hk := Nat.lt_or_ge k 12
  · obtain ⟨l, rfl⟩ := exists_lineIndex hk
    simp only [linesWord_bit, getLine_withSegments, mem_segmentLines_iff]
  · rw [BitVec.getLsbD_of_ge _ _ hk, BitVec.getLsbD_of_ge _ _ hk, if_neg (by omega)]

theorem digitLines_eq (e : Pattern) (i : Cursor) :
    digitLines e i = withSegments (setLine linesOff (selectLine i) true) e := rfl

theorem linesWord_linesOff : linesWord linesOff = 0x000#12 := by decide

/-- One select line alone is sel(i) (30_encoding.md R69). -/
theorem linesWord_select (i : Cursor) : linesWord (setLine linesOff (selectLine i) true) = sel i := by
  revert i; decide

theorem getLsbD_sel_of_lt {k : Nat} (hk : k < 8) (i : Cursor) : (sel i).getLsbD k = false := by
  have hlt : k < 8 + i.toNat := by omega
  simp [sel, hlt]

/-- The lines of a digit are word(e, i) (42_multiplex_scheduler.md R130, 30_encoding.md R69). -/
theorem linesWord_digitLines (e : Pattern) (i : Cursor) : linesWord (digitLines e i) = portWord e i := by
  apply BitVec.eq_of_getLsbD_eq
  intro k hk
  rw [digitLines_eq, linesWord_withSegments_bit, linesWord_select, portWord, BitVec.getLsbD_or]
  by_cases hseg : k < 8
  · simp only [if_pos hseg, BitVec.getLsbD_setWidth, seg_bit e k hseg, getLsbD_sel_of_lt hseg i, hk, decide_true,
      Bool.true_and, Bool.or_false]
  · simp [hseg, BitVec.getLsbD_of_ge _ _ (Nat.not_lt.mp hseg)]

theorem getLine_digitLines_selectLine (e : Pattern) (i j : Cursor) :
    getLine (digitLines e i) (selectLine j) = decide (i = j) := by
  rw [digitLines_eq, getLine_withSegments, if_neg (selectLine_notMem_segmentLines j), getLine_setLine, getLine_linesOff]
  simp [selectLine_inj]

/-! ### CELLWORD and PERMUTE -/

theorem answers_cellword (c : Cell) : Answers (.cellword c) (.eff (cellWord c)) := fun _ => rfl

theorem answers_permute (e : Pattern) : Answers (.permute e) (.seg (seg e)) := fun _ => rfl

theorem cellWord_of_no_dot (p : Pattern) : cellWord ⟨p, false⟩ = p := by simp [cellWord]

theorem cellWord_of_dot (p : Pattern) : cellWord ⟨p, true⟩ = p ||| 0x80#8 := rfl

/-- Settles O17: by the value of the dot. -/
theorem cellwordForcesTheDecimalPoint : Obligations.CellwordForcesTheDecimalPoint := by
  unfold Obligations.CellwordForcesTheDecimalPoint
  intro p
  have hoff := answers_cellword ⟨p, false⟩
  rw [cellWord_of_no_dot] at hoff
  exact ⟨hoff, cellWord_of_dot p ▸ answers_cellword ⟨p, true⟩⟩

theorem permute_of_lt {k : Nat} (hk : k < 7) (e : Pattern) : permute e k = e.getLsbD (6 - k) := if_pos hk

theorem permute_seven (e : Pattern) : permute e 7 = e.getLsbD 7 := rfl

/-- Reversing the low seven bits twice gives them back (95_test_vectors.md T6). -/
theorem seg_seg (e : Pattern) : seg (seg e) = e := by
  apply BitVec.eq_of_getLsbD_eq
  intro k hk
  rw [seg_bit _ _ hk]
  obtain hlow | rfl : k < 7 ∨ k = 7 := by omega
  · rw [permute_of_lt hlow, seg_bit _ _ (by omega), permute_of_lt (by omega)]
    congr 1
    omega
  · rw [permute_seven, seg_bit _ _ (by omega), permute_seven]

/-- Settles O18 with the word seg(e). -/
theorem permuteReversesTheLowSevenBits : Obligations.PermuteReversesTheLowSevenBits := by
  unfold Obligations.PermuteReversesTheLowSevenBits
  intro e
  refine ⟨seg e, answers_permute e, ?_, fun k hk => ?_, ?_⟩
  · simpa only [seg_seg] using answers_permute (seg e)
  · rw [seg_bit _ _ (by omega), permute_of_lt hk]
  · rw [seg_bit _ _ (by omega), permute_seven]

/-! ### The eight steps, each run alone -/

theorem exec_tick1Guard_bound {s : State} (ht : s.textAvail = true) (hp : s.portAvail = true) :
    exec .tick1Guard s = .next { s with perTick := TickVals.idle, answer := none } := by
  simp [exec, execTick1Guard, State.bothBound, ht, hp, State.withPerTick, State.answering]

theorem exec_tick2Clear (s : State) :
    exec .tick2Clear s = .next { s with
      portBuf := linesOff, portOut := linesOff, trace := s.trace ++ clearTransactions ++ [.commit],
      lineLog := s.lineLog ++ [linesOff], answer := none } := by
  simp [exec, execTick2Clear, tickClear_eq, State.answering]

theorem exec_tick3Frame_bound {s : State} (ht : s.textAvail = true) :
    exec .tick3Frame s = .next { s with
      perTick := { s.perTick with text := s.text, frame := format s.text }, answer := none } := by
  simp [exec, execTick3Frame, tickFrame, ht, State.withPerTick, State.answering]

theorem exec_tick4Cell (s : State) :
    exec .tick4Cell s = .next { s with
      perTick := { s.perTick with cell := frameCell s.perTick.frame s.cursor }, answer := none } := rfl

theorem exec_tick5Select (s : State) :
    exec .tick5Select s = .next { s with
      portBuf := setLine s.portBuf (selectLine s.cursor) true
      trace := s.trace ++ [.setBit (selectLine s.cursor) true]
      answer := none } := rfl

theorem exec_tick6Segments (s : State) :
    exec .tick6Segments s = .next { s with
      portBuf := withSegments s.portBuf (cellWord s.perTick.cell)
      trace := s.trace ++ segmentTransactions (cellWord s.perTick.cell)
      perTick := { s.perTick with eff := cellWord s.perTick.cell }
      answer := none } := by
  simp only [exec, execTick6Segments, tickSegments, setBits_eq, map_segmentLines_permute, withSegments, State.withPerTick,
    State.answering]

theorem exec_tick7Commit (s : State) :
    exec .tick7Commit s = .next { s with
      portOut := s.portBuf, trace := s.trace ++ [.commit], lineLog := s.lineLog ++ [s.portBuf], answer := none } := rfl

theorem exec_tick8Advance (s : State) :
    exec .tick8Advance s = .next { s with
      cursor := s.cursor + 1#2, perTick := TickVals.idle, answer := some (.result .done) } := rfl

/-- Settles O20: with both levels 1 the guard takes its first branch. -/
theorem guardLetsABoundTickGoOn : Obligations.GuardLetsABoundTickGoOn := by
  unfold Obligations.GuardLetsABoundTickGoOn
  exact fun _ ht hp => exec_tick1Guard_bound ht hp

/-- Settles O21: the twelve SETBITs leave nothing of what the buffer held. -/
theorem clearStepDrivesAllLinesOff : Obligations.ClearStepDrivesAllLinesOff := by
  unfold Obligations.ClearStepDrivesAllLinesOff
  exact exec_tick2Clear

/-- The frame cell of a digit is the cell at that place of the frame (42_multiplex_scheduler.md R126). -/
theorem cells_getElem?_cursor (f : Frame) (i : Cursor) : f.cells[i.toNat]? = some (frameCell f i) := by
  obtain h | h | h | h : i.toNat = 0 ∨ i.toNat = 1 ∨ i.toNat = 2 ∨ i.toNat = 3 := by omega
  all_goals simp [frameCell, Frame.cells, h]

/-- Settles O22: step 3 by the bound read, step 4 with the frame cell of the cursor. -/
theorem frameAndCellStepsReadTheText : Obligations.FrameAndCellStepsReadTheText := by
  unfold Obligations.FrameAndCellStepsReadTheText
  exact ⟨fun _ ht => exec_tick3Frame_bound ht, fun s => ⟨_, exec_tick4Cell s, cells_getElem?_cursor _ _⟩⟩

/-- Settles O23 with the select line of the cursor. -/
theorem selectStepAssertsTheCursorsLine : Obligations.SelectStepAssertsTheCursorsLine := by
  unfold Obligations.SelectStepAssertsTheCursorsLine
  intro s
  exact ⟨_, _, lineIndex_selectLine s.cursor, exec_tick5Select s, getLine_setLine_same _ _ _,
    fun m hm => getLine_setLine_other _ _ _ _ hm.symm⟩

/-- Settles O24: the bits of the buffer are those of the permuted pattern below index 8 and the old ones from there on. -/
theorem segmentStepWritesThePermutedPattern : Obligations.SegmentStepWritesThePermutedPattern := by
  unfold Obligations.SegmentStepWritesThePermutedPattern
  intro s
  refine ⟨_, exec_tick6Segments s, fun k hk => ?_, ?_, fun k hk => ?_⟩
  · rw [linesWord_withSegments_bit, if_pos (by omega), permute_of_lt hk]
  · rw [linesWord_withSegments_bit, if_pos (by omega), permute_seven]
  · rw [linesWord_withSegments_bit, if_neg (by omega)]

theorem toNat_cursor_add_one (i : Cursor) : (i + 1#2).toNat = (i.toNat + 1) % 4 := BitVec.toNat_add i 1#2

/-- Settles O26: addition on two bits is addition modulo 4. -/
theorem advanceStepMovesTheCursor : Obligations.AdvanceStepMovesTheCursor := by
  unfold Obligations.AdvanceStepMovesTheCursor
  exact fun s => ⟨_, toNat_cursor_add_one s.cursor, exec_tick8Advance s⟩

/-! ### Whole ticks -/

/-- Settles O27: skipped by the shared ending, completed with the state `afterTick`. -/
theorem completedTickDrivesOneDigit : Obligations.CompletedTickDrivesOneDigit := by
  unfold Obligations.CompletedTickDrivesOneDigit
  refine ⟨fun s h => exec_tick_unbound h, fun s ht hp => ⟨afterTick s, exec_tick_bound ht hp, ?_⟩⟩
  exact ⟨toNat_cursor_add_one s.cursor, linesWord_digitLines _ _, rfl, rfl, lineIndex_selectLine s.cursor, rfl, rfl, rfl, rfl, rfl,
    rfl, rfl⟩

/-- Settles O28: the updates of the eight steps, one on the other, are the one update of the tick. -/
theorem tickIsItsEightSteps : Obligations.TickIsItsEightSteps := by
  unfold Obligations.TickIsItsEightSteps
  intro s ht hp
  refine ⟨_, _, _, _, _, _, _, _, exec_tick1Guard_bound ht hp, exec_tick2Clear _, exec_tick3Frame_bound ht, exec_tick4Cell _,
    exec_tick5Select _, exec_tick6Segments _, exec_tick7Commit _, exec_tick8Advance _, ?_⟩
  simp [exec_tick_bound ht hp, afterTick, digitLines_eq, drivenPattern, tickTransactions]

@[simp] theorem afterTick_cursor (s : State) : (afterTick s).cursor = s.cursor + 1#2 := rfl
@[simp] theorem afterTick_text (s : State) : (afterTick s).text = s.text := rfl

/-- A completed tick puts 0x000 and the digit word of the cursor on record (42_multiplex_scheduler.md R132). -/
theorem map_linesWord_lineLog_afterTick (s : State) :
    (afterTick s).lineLog.map linesWord = s.lineLog.map linesWord ++ [0x000#12, digitWord s.text s.cursor] := by
  simp [afterTick, linesWord_linesOff, linesWord_digitLines, digitWord]

/-- After a completed tick the select line of the digit it drove is true and no other is. -/
theorem getLine_portOut_afterTick (s : State) (j : Cursor) :
    getLine (afterTick s).portOut (selectLine j) = decide (s.cursor = j) :=
  getLine_digitLines_selectLine _ _ _

/-- The ticks from some states make a select line true as often as those states have its digit as their cursor. -/
theorem length_filter_selectLine_afterTick (us : List State) (j : Cursor) :
    ((us.map afterTick).filter fun t => getLine t.portOut (selectLine j)).length = (us.map State.cursor).countP (· = j) := by
  simp only [List.filter_map, List.length_map, List.countP_eq_length_filter, Function.comp_def,
    getLine_portOut_afterTick]

/-- Four cursors in a row are the four cursors. -/
theorem count_four_cursors (i j : Cursor) : [i, i + 1#2, i + 1#2 + 1#2, i + 1#2 + 1#2 + 1#2].countP (· = j) = 1 := by
  revert i j; decide

/-- Settles O30: each tick leaves a bound state with the same text and the next cursor, and adds its two values to the record. -/
theorem fourTicksShowEveryDigitOnce : Obligations.FourTicksShowEveryDigitOnce := by
  unfold Obligations.FourTicksShowEveryDigitOnce
  intro s ht hp
  have htick (u : State) (hut : u.textAvail = s.textAvail) (hup : u.portAvail = s.portAvail) :
      exec .tick u = .next (afterTick u) := exec_tick_bound (hut.trans ht) (hup.trans hp)
  refine ⟨_, _, _, _, htick s rfl rfl, htick _ rfl rfl, htick _ rfl rfl, htick _ rfl rfl, ?_, rfl, ht, hp, ?_, fun j => ?_⟩
  · simp [BitVec.add_assoc]
  · simp [map_linesWord_lineLog_afterTick, BitVec.add_assoc]
  · exact (length_filter_selectLine_afterTick
      [s, afterTick s, afterTick (afterTick s), afterTick (afterTick (afterTick s))] j).trans (count_four_cursors s.cursor j)

/-! ### The select lines along a list of transactions -/

theorem length_filter_cursors_le_one_iff (f : Cursor → Bool) :
    ([f 0#2, f 1#2, f 2#2, f 3#2].filter id).length ≤ 1 ↔ ∀ i j, f i = true → f j = true → i = j := by
  revert f; decide

/-- At most one select line is true when any two that are true are the same. -/
theorem atMostOneSelect_iff (p : Lines) :
    atMostOneSelect p = true ↔
      ∀ i j : Cursor, getLine p (selectLine i) = true → getLine p (selectLine j) = true → i = j :=
  decide_eq_true_iff.trans (length_filter_cursors_le_one_iff fun i => getLine p (selectLine i))

/-- Lines whose true select lines are among those of `p` have no more of them. -/
theorem atMostOneSelect_of_imp {p q : Lines} (hp : atMostOneSelect p = true)
    (h : ∀ i, getLine q (selectLine i) = true → getLine p (selectLine i) = true) : atMostOneSelect q = true := by
  rw [atMostOneSelect_iff] at hp ⊢
  exact fun i j hi hj => hp i j (h i hi) (h j hj)

theorem atMostOneSelect_linesOff : atMostOneSelect linesOff = true := rfl

/-- A digit has its own select line only. -/
theorem atMostOneSelect_digitLines (e : Pattern) (i : Cursor) : atMostOneSelect (digitLines e i) = true := by
  rw [atMostOneSelect_iff]
  simp only [getLine_digitLines_selectLine, decide_eq_true_eq]
  exact fun j k hj hk => hj.symm.trans hk

/-- A transaction that makes no select line true. -/
def RaisesNoSelect : Txn → Prop
  | .setBit l v => v = true → l ∈ segmentLines
  | .commit => True

theorem atMostOneSelect_setLine {p : Lines} {l : Line} {v : Bool} (hp : atMostOneSelect p = true)
    (h : RaisesNoSelect (.setBit l v)) : atMostOneSelect (setLine p l v) = true := by
  refine atMostOneSelect_of_imp hp fun i hi => ?_
  rw [getLine_setLine] at hi
  split at hi
  · next hl => exact absurd (hl ▸ h hi) (selectLine_notMem_segmentLines i)
  · exact hi

/-- Transactions that raise no select line keep at most one of them true throughout. -/
theorem atMostOneSelect_bufferValues {buf : Lines} {T : List Txn} (hbuf : atMostOneSelect buf = true)
    (hT : ∀ x ∈ T, RaisesNoSelect x) : ∀ p ∈ bufferValues buf T, atMostOneSelect p = true := by
  induction T generalizing buf with
  | nil => simp [bufferValues]
  | cons x T ih =>
    obtain ⟨hx, hrest⟩ := List.forall_mem_cons.mp hT
    cases x with
    | commit => exact List.forall_mem_cons.mpr ⟨hbuf, ih hbuf hrest⟩
    | setBit l v =>
      have hset := atMostOneSelect_setLine hbuf hx
      exact List.forall_mem_cons.mpr ⟨hset, ih hset hrest⟩

theorem bufferValues_append (buf : Lines) (T U : List Txn) :
    bufferValues buf (T ++ U) = bufferValues buf T ++ bufferValues (bufferAfter buf T) U := by
  induction T generalizing buf with
  | nil => rfl
  | cons x T ih => cases x <;> simp [bufferValues, bufferAfter, ih]

theorem length_bufferValues (buf : Lines) (T : List Txn) : (bufferValues buf T).length = T.length := by
  induction T generalizing buf with
  | nil => rfl
  | cons x T ih => cases x <;> simp [bufferValues, ih]

theorem bufferAfter_append (buf : Lines) (T U : List Txn) : bufferAfter buf (T ++ U) = bufferAfter (bufferAfter buf T) U := by
  induction T generalizing buf with
  | nil => rfl
  | cons x T ih => cases x <;> exact ih _

/-- The last value of the buffer along a list of transactions is the one they end with. -/
theorem getLast?_bufferValues_concat (buf : Lines) (T : List Txn) (x : Txn) :
    (bufferValues buf (T ++ [x])).getLast? = some (bufferAfter buf (T ++ [x])) := by
  rw [bufferValues_append, bufferAfter_append]
  cases x <;> simp [bufferValues, bufferAfter]

/-- What is left of a tick's transactions after the twelve clearing SETBITs (42_multiplex_scheduler.md R132). -/
def driveTransactions (e : Pattern) (i : Cursor) : List Txn :=
  [.commit, .setBit (selectLine i) true] ++ (segmentTransactions e ++ [.commit])

theorem tickTransactions_eq (e : Pattern) (i : Cursor) :
    tickTransactions e i = clearTransactions ++ driveTransactions e i := by
  simp [tickTransactions, driveTransactions]

theorem bufferAfter_clearTransactions (buf : Lines) : bufferAfter buf clearTransactions = linesOff := rfl

theorem raisesNoSelect_of_mem_clearTransactions : ∀ x ∈ clearTransactions, RaisesNoSelect x := by
  simp [clearTransactions, RaisesNoSelect]

theorem raisesNoSelect_of_mem_segmentTransactions (e : Pattern) :
    ∀ x ∈ segmentTransactions e ++ [.commit], RaisesNoSelect x := by
  simp [segmentTransactions, RaisesNoSelect, segmentLines]

/-- From the cleared buffer on, the one select line of the digit is all that a tick raises (42_multiplex_scheduler.md R127). -/
theorem atMostOneSelect_driveTransactions (e : Pattern) (i : Cursor) :
    ∀ p ∈ bufferValues linesOff (driveTransactions e i), atMostOneSelect p = true := by
  have hsel : atMostOneSelect (setLine linesOff (selectLine i) true) = true := by revert i; decide
  rw [driveTransactions, bufferValues_append]
  exact List.forall_mem_append.mpr ⟨by simp [bufferValues, atMostOneSelect_linesOff, hsel],
    atMostOneSelect_bufferValues hsel (raisesNoSelect_of_mem_segmentTransactions e)⟩

/-- The values of the buffer in a tick: those of the clearing, the last of which is all off, then those of the driving. -/
theorem bufferValues_tickTransactions (buf : Lines) (e : Pattern) (i : Cursor) :
    bufferValues buf (tickTransactions e i) =
      bufferValues buf clearTransactions ++ bufferValues linesOff (driveTransactions e i) := by
  rw [tickTransactions_eq, bufferValues_append, bufferAfter_clearTransactions]

/-- From the twelfth transaction of a tick on, whatever the buffer held (42_multiplex_scheduler.md R136). -/
theorem atMostOneSelect_tick_after_clearing (buf : Lines) (e : Pattern) (i : Cursor) :
    ∀ p ∈ (bufferValues buf (tickTransactions e i)).drop 11, atMostOneSelect p = true := by
  have hdrop : (bufferValues buf clearTransactions).drop 11 = [linesOff] := rfl
  rw [bufferValues_tickTransactions, List.drop_append_of_le_length (by simp [length_bufferValues, clearTransactions]), hdrop]
  exact List.forall_mem_cons.mpr ⟨atMostOneSelect_linesOff, atMostOneSelect_driveTransactions e i⟩

/-- Along a whole tick from a buffer that has at most one select line true (42_multiplex_scheduler.md R136). -/
theorem atMostOneSelect_tick {buf : Lines} (hbuf : atMostOneSelect buf = true) (e : Pattern) (i : Cursor) :
    ∀ p ∈ bufferValues buf (tickTransactions e i), atMostOneSelect p = true := by
  rw [bufferValues_tickTransactions]
  exact List.forall_mem_append.mpr ⟨atMostOneSelect_bufferValues hbuf raisesNoSelect_of_mem_clearTransactions,
    atMostOneSelect_driveTransactions e i⟩

theorem getLast?_bufferValues_tick (buf : Lines) (e : Pattern) (i : Cursor) :
    (bufferValues buf (tickTransactions e i)).getLast? = some (digitLines e i) :=
  getLast?_bufferValues_concat buf _ .commit

/-- Settles O32: the clause about the transactions, and the same of those a tick adds to the trace. -/
theorem bufferHoldsOneSelectInsideATick : Obligations.BufferHoldsOneSelectInsideATick := by
  unfold Obligations.BufferHoldsOneSelectInsideATick
  constructor
  · intro buf e i
    refine ⟨atMostOneSelect_tick_after_clearing buf e i, fun hbuf => atMostOneSelect_tick hbuf e i, ?_⟩
    rw [getLast?_bufferValues_tick, Option.map_some, linesWord_digitLines]
  · intro s ht hp
    exact ⟨afterTick s, _, exec_tick_bound ht hp, rfl, rfl, atMostOneSelect_tick_after_clearing _ _ _,
      fun hbuf => atMostOneSelect_tick hbuf _ _, getLast?_bufferValues_tick _ _ _⟩

/-! ### No ghosting -/

/-- No ghosting is kept when no event is new and the values `L` that the lines take have at most one select line true each. -/
theorem NoGhosting.extend {s t : State} {L : List Lines} (hs : NoGhosting s) (hscenario : t.scenario ⊆ s.scenario)
    (hlog : t.lineLog = s.lineLog ++ L) (hout : t.portOut = L.getLast?.getD s.portOut)
    (hL : ∀ p ∈ L, atMostOneSelect p = true) : NoGhosting t where
  ownership e he := hs.ownership e (hscenario he)
  committed := by
    rw [hlog]
    exact List.forall_mem_append.mpr ⟨hs.committed, hL⟩
  lines p hp := by
    rw [hlog, List.getLast?_append] at hp
    rw [hout]
    cases hlast : L.getLast? with
    | some q => simpa [hlast] using hp
    | none => exact hs.lines p (by simpa [hlast] using hp)

/-- No ghosting is kept when no event is new and the lines and their record are as before. -/
theorem NoGhosting.of_same_lines {s t : State} (hs : NoGhosting s) (hscenario : t.scenario ⊆ s.scenario)
    (hlog : t.lineLog = s.lineLog) (hout : t.portOut = s.portOut) : NoGhosting t :=
  hs.extend (L := []) hscenario (by simp [hlog]) hout (by simp)

/-- With no COMMIT on record there is nothing to see on the lines (70_reset_and_hazards.md R193). -/
theorem noGhosting_of_empty {s : State} (hlog : s.lineLog = []) (hown : ∀ e ∈ s.scenario, respectsOwnership e = true) :
    NoGhosting s where
  ownership := hown
  committed := by simp [hlog]
  lines := by simp [hlog]

/-- Settles O33: nothing is on record and no event is to come. -/
theorem resetHasNoGhosting : Obligations.ResetHasNoGhosting :=
  noGhosting_of_empty rfl (by simp [State.reset])

/-- A tick shows all off and then one digit, or, skipped, leaves the lines alone. -/
theorem exec_tick_keeps_noGhosting {s t : State} (h : exec .tick s = .next t) (hs : NoGhosting s) : NoGhosting t := by
  by_cases hb : s.textAvail = true ∧ s.portAvail = true
  · rw [exec_tick_bound hb.1 hb.2] at h
    cases h
    exact hs.extend (List.Subset.refl _) rfl rfl (by simp [atMostOneSelect_linesOff, atMostOneSelect_digitLines])
  · rw [exec_tick_unbound hb] at h
    rw [skipMissingCollaborator_spec s t h]
    exact hs.of_same_lines (List.Subset.refl _) rfl rfl

/-- An operation that does not drive the port alone keeps no ghosting: of those that move the lines only the whole tick is left. -/
theorem exec_keeps_noGhosting {i : Instr} {s t : State} (h : exec i s = .next t) (hi : drivesPortAlone i = false)
    (hs : NoGhosting s) : NoGhosting t := by
  obtain ⟨-, hscenario, -, -⟩ := exec_keeps_inputs h
  obtain rfl | rfl | rfl | rfl | ⟨hout, hlog⟩ := exec_keeps_lines h
  · cases hi
  · exact exec_tick_keeps_noGhosting h hs
  · cases hi
  · cases hi
  · by_cases hreset : i = .reset
    · subst hreset
      cases h
      exact noGhosting_of_empty rfl hs.ownership
    · exact hs.of_same_lines (hscenario ▸ List.Subset.refl _) (hlog hreset) hout

theorem applyInput_keeps_noGhosting (x : Input) {s : State} (hs : NoGhosting s) : NoGhosting (applyInput x s) := by
  cases x with
  | systemReset => exact noGhosting_of_empty rfl hs.ownership
  | ownerText | textLevel | portLevel => exact hs.of_same_lines (List.Subset.refl _) rfl rfl

theorem drivesPortAlone_of_respectsOwnership {bytes : List Byte} {i : Instr} (hd : decode bytes = .ok i)
    (h : respectsOwnership (.request bytes) = true) : drivesPortAlone i = false := by
  simpa [respectsOwnership, hd] using h

/-- Settles O31: a step is a tick, a move of the outside world or a requested operation, and a request that respects ownership
does not drive the port alone. -/
theorem stepKeepsNoGhosting : Obligations.StepKeepsNoGhosting := by
  unfold Obligations.StepKeepsNoGhosting
  intro s t hs h
  have hrest {e : Event} {rest : List Event} (he : s.scenario = e :: rest) : NoGhosting { s with scenario := rest } :=
    hs.of_same_lines (he ▸ List.subset_cons_self e rest) rfl rfl
  rcases step_cases s t h with ⟨-, htick⟩ | ⟨x, rest, he, rfl⟩ | ⟨bytes, rest, i, he, hd, hexec⟩
  · exact exec_tick_keeps_noGhosting htick hs
  · exact applyInput_keeps_noGhosting x (hrest he)
  · have hown : respectsOwnership (.request bytes) = true := hs.ownership _ (by simp [he])
    exact exec_keeps_noGhosting hexec (drivesPortAlone_of_respectsOwnership hd hown) (hrest he)

end Sys2Proof.Machine

/-! SUPPORT. The port and text interfaces: one SETBIT as one bit of the port word, COMMIT under the two readings of the buffer, the
reads of a bound and of an unbound text, and the moves of the outside world (43_port_and_text_interfaces.md). -/

namespace Sys2Proof.Machine

/-! ### SETBIT and COMMIT -/

theorem lineIndex_inj {l m : Line} : lineIndex l = lineIndex m ↔ l = m := by
  refine ⟨fun h => Option.some.inj ?_, congrArg lineIndex⟩
  rw [← lineOfIndex_lineIndex l, h, lineOfIndex_lineIndex]

theorem lineIndex_lt (l : Line) : lineIndex l < 12 := by
  cases l <;> decide

/-- Putting a value on a line writes one bit of the port word (43_port_and_text_interfaces.md R151, 30_encoding.md R63). -/
theorem linesWord_setLine_bit (p : Lines) (l : Line) (v : Bool) (k : Nat) :
    (linesWord (setLine p l v)).getLsbD k = if k = lineIndex l then v else (linesWord p).getLsbD k := by
  obtain hk | hk := Nat.lt_or_ge k 12
  · obtain ⟨m, rfl⟩ := exists_lineIndex hk
    simp only [linesWord_bit, getLine_setLine, lineIndex_inj, eq_comm]
  · have hne : k ≠ lineIndex l := ((lineIndex_lt l).trans_le hk).ne'
    rw [if_neg hne, BitVec.getLsbD_of_ge _ _ hk, BitVec.getLsbD_of_ge _ _ hk]

/-- Settles O36 with the line of the index. -/
theorem setbitBuffersOneBit : Obligations.SetbitBuffersOneBit := by
  unfold Obligations.SetbitBuffersOneBit
  intro k v s hk
  obtain ⟨l, hl⟩ := exists_lineIndex hk
  have hexec := exec_setbit_lineIndex l v s
  rw [hl, BitVec.ofNat_toNat, BitVec.setWidth_eq] at hexec
  refine ⟨l, setLine s.portBuf l v, hl, hexec, ?_, fun j hj => ?_⟩
  · rw [linesWord_setLine_bit, if_pos hl.symm]
  · rw [linesWord_setLine_bit, if_neg (hl ▸ hj)]

theorem exec_commit (s : State) :
    exec .commit s = .next { s with
      portOut := s.portBuf, trace := s.trace ++ [.commit], lineLog := s.lineLog ++ [s.portBuf], answer := none } := rfl

/-- Settles O25: the operation and the tick's step are the same COMMIT. -/
theorem commitPublishesTheBuffer : Obligations.CommitPublishesTheBuffer := by
  unfold Obligations.CommitPublishesTheBuffer
  exact fun s => ⟨exec_commit s, (exec_tick7Commit s).trans (exec_commit s).symm⟩

/-! ### The two readings of the buffer -/

/-- Reading B's lines with its pending changes made are reading A's shadow register (43_port_and_text_interfaces.md R153). -/
theorem readingB_eq_readingA (out : Lines) (pending : List (Line × Bool)) (T : List Txn) :
    readingB out pending T = readingA (pending.foldl (fun p c => setLine p c.1 c.2) out) T := by
  induction T generalizing out pending with
  | nil => rfl
  | cons x T ih =>
    cases x with
    | setBit l v => rw [readingB, ih, List.foldl_concat, readingA]
    | commit => rw [readingB, ih, List.foldl_nil, readingA]

/-- A tick's values under reading B: its clearing leaves nothing of the lines and the pending changes it began with. -/
theorem readingB_tickTransactions (out : Lines) (pending : List (Line × Bool)) (e : Pattern) (i : Cursor) :
    readingB out pending (tickTransactions e i) = [linesOff, digitLines e i] := by
  rw [readingB_eq_readingA, readingA_tickTransactions]

/-- Settles O39: over a tick both readings give all off and the digit, and these are what TICK puts on record. -/
theorem bufferReadingsAgreeOnTicks : Obligations.BufferReadingsAgreeOnTicks := by
  unfold Obligations.BufferReadingsAgreeOnTicks
  constructor
  · intro buf out pending e i
    rw [readingA_tickTransactions, readingB_tickTransactions]
    simp [linesWord_linesOff, linesWord_digitLines]
  · intro s ht hp
    refine ⟨afterTick s, tickTransactions (drivenPattern s.text s.cursor) s.cursor, exec_tick_bound ht hp, rfl, rfl, rfl,
      fun pending => ?_⟩
    rw [readingA_tickTransactions, readingB_tickTransactions]

/-! ### The text source and the bindings -/

theorem exec_textread (s : State) : exec .textread s = .next (s.afterRead.answering (some (.text s.readText))) := rfl

/-- Settles O40 by the bound read, which leaves the state as it is. -/
theorem textreadGivesTheWholeText : Obligations.TextreadGivesTheWholeText := by
  unfold Obligations.TextreadGivesTheWholeText
  intro s ht
  rw [exec_textread, afterRead_bound s ht, readText_bound s ht, State.answering]

theorem afterRead_unbound {s : State} (h : s.textAvail = false) : s.afterRead = { s with draws := s.draws + 1 } := by
  simp [State.afterRead, h]

/-- Settles O41 with the text the read gives, of which nothing is known (log 7). -/
theorem unboundTextReadsComplete : Obligations.UnboundTextReadsComplete := by
  unfold Obligations.UnboundTextReadsComplete
  intro s ht
  refine ⟨s.readText, ?_, ?_⟩
  · rw [exec_textread, afterRead_unbound ht, State.answering]
  · rw [exec, execTick3Frame, tickFrame, afterRead_unbound ht, State.withPerTick, State.answering]

theorem exec_bindText (s : State) : exec .bindText s = .next { s with textAvail := true, answer := none } := rfl

theorem exec_bindPort (s : State) : exec .bindPort s = .next { s with portAvail := true, answer := none } := rfl

/-- Settles O42. -/
theorem bindingRaisesOneLevelOnly : Obligations.BindingRaisesOneLevelOnly := by
  unfold Obligations.BindingRaisesOneLevelOnly
  exact fun s => ⟨exec_bindText s, exec_bindPort s⟩

/-! ### The moves of the outside world -/

theorem step_of_input {s : State} {x : Input} {rest : List Event} (hs : s.scenario = .input x :: rest) :
    step s = .next (applyInput x { s with scenario := rest }) := by
  simp [step, takeEvent_of_scenario_cons hs]

/-- Settles O49: a move at the head of the scenario is applied to the state without it. -/
theorem outsideMovesChangeOnlyTheirInput : Obligations.OutsideMovesChangeOnlyTheirInput := by
  unfold Obligations.OutsideMovesChangeOnlyTheirInput
  exact fun s rest => ⟨fun t hs => step_of_input hs, fun b hs => step_of_input hs, fun b hs => step_of_input hs,
    fun hs => step_of_input hs⟩

end Sys2Proof.Machine

/-! SUPPORT. The one exceptional condition, MissingCollaborator, and that no condition stops the machine (60_exceptions.md). -/

namespace Sys2Proof.Machine

/-! ### The skip -/

/-- Step 1 with a collaborator missing skips the tick (42_multiplex_scheduler.md R122, 60_exceptions.md R171). -/
theorem exec_tick1Guard_unbound {s : State} (h : ¬(s.textAvail = true ∧ s.portAvail = true)) :
    exec .tick1Guard s = skipMissingCollaborator s := by
  have hb : s.bothBound = false := by simpa [State.bothBound] using h
  simp [exec, execTick1Guard, hb]

/-- Settles O19: the tick and its guard end in the same skip, which writes the result alone. -/
theorem missingCollaboratorSkipsTheTick : Obligations.MissingCollaboratorSkipsTheTick := by
  unfold Obligations.MissingCollaboratorSkipsTheTick
  exact fun _ h => ⟨exec_tick_unbound h, exec_tick1Guard_unbound h⟩

/-! ### Completion -/

/-- The guard goes on with both collaborators, and the skip goes on too (60_exceptions.md R178). -/
theorem exec_tick1Guard_completes (s : State) : ∃ t, exec .tick1Guard s = .next t := by
  by_cases hb : s.textAvail = true ∧ s.portAvail = true
  · exact ⟨_, exec_tick1Guard_bound hb.1 hb.2⟩
  · exact ⟨_, exec_tick1Guard_unbound hb⟩

theorem exec_tick_completes (s : State) : ∃ t, exec .tick s = .next t := by
  by_cases hb : s.textAvail = true ∧ s.portAvail = true
  · exact ⟨_, exec_tick_bound hb.1 hb.2⟩
  · exact ⟨_, exec_tick_unbound hb⟩

/-- An index in SETBIT's domain names a line, and so SETBIT goes on (43_port_and_text_interfaces.md R151). -/
theorem exec_setbit_completes {k : BitVec 4} (hk : portIndexInDomain k = true) (v : Bool) (s : State) :
    ∃ t, exec (.setbit k v) s = .next t := by
  obtain ⟨_, _, -, hexec, -⟩ := setbitBuffersOneBit k v s (of_decide_eq_true hk)
  exact ⟨_, hexec⟩

/-- Settles O55: three operations have a condition in their meaning, the guard, the tick and SETBIT; of the others only PORT_UNUSED
has another outcome than a next state. -/
theorem everyOperationInDomainCompletes : Obligations.EveryOperationInDomainCompletes := by
  unfold Obligations.EveryOperationInDomainCompletes
  intro i hwf hused s
  cases i with
  | portUnused k v => exact absurd rfl (hused k v)
  | tick1Guard => exact exec_tick1Guard_completes s
  | tick => exact exec_tick_completes s
  | setbit k v => exact exec_setbit_completes hwf v s
  | _ => exact ⟨_, rfl⟩

end Sys2Proof.Machine

/-! SUPPORT. RESET, the state after reset, the first tick after RESET, and the tick that a step makes when no event is pending
(70_reset_and_hazards.md). -/

namespace Sys2Proof.Machine

/-! ### RESET and the first tick after it -/

/-- RESET writes CURSOR, the trace and the model's records (70_reset_and_hazards.md R190, D5). -/
theorem exec_reset (s : State) :
    exec .reset s = .next { s with cursor := 0#2, trace := [], lineLog := [], answer := none } := rfl

/-- Settles O43. -/
theorem resetOperationZeroesTheCursor : Obligations.ResetOperationZeroesTheCursor := by
  unfold Obligations.ResetOperationZeroesTheCursor
  exact exec_reset

/-- After a completed tick the lines carry the digit word of its cursor (42_multiplex_scheduler.md R130). -/
theorem linesWord_portOut_afterTick (s : State) : linesWord (afterTick s).portOut = digitWord s.text s.cursor :=
  linesWord_digitLines _ _

/-- A completed tick from cursor 0 commits all off and then digit 0, and goes on to digit 1 (42_multiplex_scheduler.md R131, R132). -/
theorem afterTick_of_cursor_zero {s : State} (h : s.cursor = 0#2) :
    (afterTick s).cursor = 1#2 ∧
      (afterTick s).lineLog.map linesWord = s.lineLog.map linesWord ++ [0x000#12, digitWord s.text 0#2] ∧
        linesWord (afterTick s).portOut = digitWord s.text 0#2 := by
  rw [map_linesWord_lineLog_afterTick, linesWord_portOut_afterTick, afterTick_cursor, h]
  exact ⟨rfl, rfl, rfl⟩

/-- Once both collaborators are bound a tick completes, and the bindings leave it CURSOR, TEXT and the record of the lines
(43_port_and_text_interfaces.md R157, R158). -/
theorem tick_after_bindings_shows_digit_zero {s : State} (h : s.cursor = 0#2) :
    ∃ u v w, exec .bindText s = .next u ∧ exec .bindPort u = .next v ∧ exec .tick v = .next w ∧
      w.cursor = 1#2 ∧ w.lineLog.map linesWord = s.lineLog.map linesWord ++ [0x000#12, digitWord s.text 0#2] ∧
        linesWord w.portOut = digitWord s.text 0#2 :=
  ⟨_, _, _, exec_bindText s, exec_bindPort _, exec_tick_bound rfl rfl, afterTick_of_cursor_zero h⟩

/-- Settles O45: whichever levels RESET finds it leaves, so the tick completes from cursor 0 or is skipped; after the bindings it
completes. -/
theorem firstTickAfterResetShowsDigitZero : Obligations.FirstTickAfterResetShowsDigitZero := by
  unfold Obligations.FirstTickAfterResetShowsDigitZero
  intro s
  have hbindings := tick_after_bindings_shows_digit_zero (s := s.resetOp) rfl
  by_cases hb : s.resetOp.textAvail = true ∧ s.resetOp.portAvail = true
  · exact ⟨s.resetOp, afterTick s.resetOp, exec_reset s, exec_tick_bound hb.1 hb.2,
      fun _ => afterTick_of_cursor_zero rfl, fun hmissing => absurd hb hmissing, hbindings⟩
  · exact ⟨s.resetOp, _, exec_reset s, exec_tick_unbound hb, fun hbound => absurd hbound hb, fun _ => rfl, hbindings⟩

/-! ### The state after reset, and a step with no event pending -/

theorem takeEvent_of_scenario_nil {s : State} (hs : s.scenario = []) : takeEvent s = none := by
  simp [takeEvent, hs]

/-- The tick source delivers a tick (70_reset_and_hazards.md R202, log 1). -/
theorem step_of_scenario_nil {s : State} (hs : s.scenario = []) : step s = exec .tick s := by
  simp [step, takeEvent_of_scenario_nil hs]

/-- Settles O50. -/
theorem stepWithoutEventsIsATick : Obligations.StepWithoutEventsIsATick := by
  unfold Obligations.StepWithoutEventsIsATick
  exact fun _ hs => step_of_scenario_nil hs

/-- Settles O35: nothing is on the trace or on record. -/
theorem resetHasPortRecords : Obligations.ResetHasPortRecords :=
  portRecords_of_empty rfl rfl

/-- Each line of the buffer has the free value of its index (70_reset_and_hazards.md R191, log 5). -/
theorem getLine_reset_portBuf (l : Line) : getLine State.reset.portBuf l = Config.portBufReset (lineIndex l) := by
  cases l <;> rfl

/-- Each line of the port has the free value of its index (70_reset_and_hazards.md R191, log 5). -/
theorem getLine_reset_portOut (l : Line) : getLine State.reset.portOut l = Config.portOutReset (lineIndex l) := by
  cases l <;> rfl

/-- No text is bound after reset, so the first step is a skipped tick (60_exceptions.md R171, R172). -/
theorem step_reset : step State.reset = .next { State.reset with answer := some (.result .skipped) } := by
  have hunbound : ¬(State.reset.textAvail = true ∧ State.reset.portAvail = true) := by simp [State.reset]
  rw [step_of_scenario_nil rfl, exec_tick_unbound hunbound, skipMissingCollaborator, State.answering]

/-- Settles O44: the fields as they are written, the port line by line, and the first step. -/
theorem resetStateIsAsTheSpecSays : Obligations.ResetStateIsAsTheSpecSays := by
  unfold Obligations.ResetStateIsAsTheSpecSays
  exact ⟨rfl, rfl, rfl, rfl, getLine_reset_portBuf, getLine_reset_portOut, rfl, rfl, rfl, rfl, rfl, rfl, step_reset⟩

end Sys2Proof.Machine
